-- ==== Sys2Proof/Word.lean ====
section
/-! DEFINITION. The word types of the block (00_scope.md R8). A time is a plain `Nat`: an unbounded natural number of abstract
time units (00_scope.md R5). -/

namespace Sys2Proof

/-- A byte, 0..255, bit 7 its most significant bit (00_scope.md section 5). -/
abbrev Byte := BitVec 8

/-- A 16-bit value: a checksum or a 16-bit parameter. -/
abbrev Word16 := BitVec 16

/-- A 32-bit host request word or status view word (30_encoding.md R80, 10_state.md R32). -/
abbrev Word32 := BitVec 32

/-- The transport's opaque error token `e`, which the engine carries whole and never inspects
(60_exceptions.md R221). DESIGN CHOICE: any countable type of tokens, numbered (log 16). -/
abbrev Token := Nat

end Sys2Proof
end

