-- ==== Sys2Proof/Config.lean ====
section
/-! DEFINITION. The constants of the block (00_scope.md R2), its parameters (00_scope.md section 3), the shape of the
transport's answers (20_memory.md R55 to R57), and the free values: constants with no body, which no proof can look into. -/

namespace Sys2Proof

/-! ### Constants fixed by the source (00_scope.md R2) -/

def Config.startMark : Byte := 0x7E#8
def Config.version : Byte := 0xFF#8
def Config.length : Byte := 0x06#8
def Config.endMark : Byte := 0xEF#8
def Config.ackCode : Byte := 0x41#8
def Config.errorCode : Byte := 0x40#8
def Config.fbOn : Byte := 0x01#8
def Config.fbOff : Byte := 0x00#8
def Config.volumeMax : Byte := 30#8
def Config.trackMax : Word16 := 2999#16
/-- The module fault code of a checksum failure. -/
def Config.checksumFault : Byte := 0x04#8

/-! ### Policies and parameters (00_scope.md section 3) -/

/-- When a wait with feedback ends (43_session.md R160). -/
inductive WaitPolicy where
  | untilIdle
  | anyFrame
  | strictAck
  deriving DecidableEq, Repr

/-- What a send does when no acknowledgement is awaited (43_session.md R166). -/
inductive NofbPolicy where
  | drain
  | fixedDelay
  deriving DecidableEq, Repr

/-- The eight device-reported faults that have a name (44_error_classifier.md R191). -/
inductive ModuleFault where
  | busy
  | sleeping
  | serialReceiveError
  | checksum
  | trackOutOfRange
  | trackNotFound
  | insertionError
  | enterSleepFailed
  deriving DecidableEq, Repr

/-- What the classifier answers: a named fault, or `Unknown` for a byte outside the map (44_error_classifier.md R190, R191).
The map's values are named faults, so a byte inside the map is never `Unknown` (R192). -/
inductive ModuleErrorKind where
  | named (f : ModuleFault)
  | unknown
  deriving DecidableEq, Repr

/-- The parameters the source leaves open (00_scope.md section 3); fixed for the life of one model instance (R4).
`knownCodes` is a set and `moduleErrorMap` a partial map, written as lists (log 23). -/
structure Params where
  knownCodes : List Byte
  resetCode : Byte
  moduleErrorMap : List (Byte × ModuleFault)
  cksumZeroCmdCorrection : Bool
  waitPolicy : WaitPolicy
  nofbPolicy : NofbPolicy
  nofbDelay : Nat
  pollInterval : Nat
  resetSettleDefault : Nat
  rxBatchMax : Nat
  resetWaits : Bool
  timeoutCheckAlways : Bool
  volumeCode : Byte
  trackCode : Byte
  eqCode : Byte
  sourceCode : Byte
  loopallCode : Byte
  deriving DecidableEq, Repr

/-- `MODULE_ERROR_MAP(b)`, where the map has an entry for `b` (the list's first entry for a code counts, log 23). -/
def Params.moduleError? (p : Params) (b : Byte) : Option ModuleFault :=
  (p.moduleErrorMap.find? (fun e => e.1 == b)).map (fun e => e.2)

/-- The parameter sets a model accepts (00_scope.md R3). -/
def Params.admissible (p : Params) : Bool :=
  p.knownCodes.contains Config.ackCode
    && p.knownCodes.contains Config.errorCode
    && p.knownCodes.contains p.resetCode
    && !(p.resetCode == Config.ackCode)
    && !(p.resetCode == Config.errorCode)
    && p.moduleError? Config.checksumFault == some .checksum
    && Nat.blt 0 p.pollInterval
    && Nat.blt 0 p.rxBatchMax

/-! ### What the transport can answer -/

/-- An answer of `RxPoll` (20_memory.md R57). -/
inductive PollAnswer where
  | ready
  | notready
  | terr (e : Token)
  deriving DecidableEq, Repr, Inhabited

/-- An answer of `RxRead` (20_memory.md R56). `suspended`: the call has not returned yet ("may itself suspend until bytes
arrive", 43_session.md R156); a call that never returns is suspended for ever (70_reset_and_hazards.md R262, log 5). -/
inductive ReadAnswer where
  | batch (l : List Byte)
  | terr (e : Token)
  | suspended
  deriving DecidableEq, Repr, Inhabited

/-- An answer of `TxWrite` (20_memory.md R55). `terr e k`: it failed with token `e` after the first `k` bytes of the frame
reached the wire; `k` is a free draw the engine never sees (93_implementation_defined.md U6). `suspended` as for a read. -/
inductive WriteAnswer where
  | ok
  | terr (e : Token) (onWire : Nat)
  | suspended
  deriving DecidableEq, Repr, Inhabited

/-! ### Free values: what the transport and the time source answer when State lists no answer (log 2, log 3) -/

opaque Config.freePoll : Nat → PollAnswer
opaque Config.freeRead : Nat → ReadAnswer
opaque Config.freeWrite : Nat → WriteAnswer
/-- How many bytes of its frame a write still delivers when a block reset abandons it (70_reset_and_hazards.md R251, log 15). -/
opaque Config.freeOnWire : Nat → Nat
/-- How far time moves on (00_scope.md R5, 93_implementation_defined.md U2). -/
opaque Config.freeTick : Nat → Nat
/-- The byte of a token that a hardware `RESULT` register keeps (93_implementation_defined.md U5). -/
opaque Config.tokenByte : Token → Byte

/-! ### The OPEN parameters (92_eei_decisions.md D5, D40): constants of the machine with no known value.
Two are stated as one less than the parameter, which R3 keeps above 0. -/

opaque Config.openPollIntervalLessOne : Nat
opaque Config.openNofbDelay : Nat
opaque Config.openResetSettle : Nat
opaque Config.openRxBatchMaxLessOne : Nat

/-! ### The spec's defaults -/

/-- The default catalogue (30_encoding.md R76): `0x01..0x1A`, `0x3A..0x49`, `0x4B..0x4F`. -/
def Config.catalogue : List Byte :=
  [0x01#8, 0x02#8, 0x03#8, 0x04#8, 0x05#8, 0x06#8, 0x07#8, 0x08#8, 0x09#8, 0x0A#8, 0x0B#8, 0x0C#8, 0x0D#8]
    ++ [0x0E#8, 0x0F#8, 0x10#8, 0x11#8, 0x12#8, 0x13#8, 0x14#8, 0x15#8, 0x16#8, 0x17#8, 0x18#8, 0x19#8, 0x1A#8]
    ++ [0x3A#8, 0x3B#8, 0x3C#8, 0x3D#8, 0x3E#8, 0x3F#8, 0x40#8, 0x41#8, 0x42#8, 0x43#8, 0x44#8, 0x45#8, 0x46#8]
    ++ [0x47#8, 0x48#8, 0x49#8, 0x4B#8, 0x4C#8, 0x4D#8, 0x4E#8, 0x4F#8]

/-- The default `MODULE_ERROR_MAP` (44_error_classifier.md R191). -/
def Config.moduleErrorMap : List (Byte × ModuleFault) :=
  [(0x01#8, .busy), (0x02#8, .sleeping), (0x03#8, .serialReceiveError), (0x04#8, .checksum),
   (0x05#8, .trackOutOfRange), (0x06#8, .trackNotFound), (0x07#8, .insertionError), (0x08#8, .enterSleepFailed)]

/-- The parameter set of the state after reset: the spec's defaults, the OPEN parameters left unconstrained (log 8). -/
def Params.default : Params :=
  { knownCodes := Config.catalogue
    resetCode := 0x0C#8
    moduleErrorMap := Config.moduleErrorMap
    cksumZeroCmdCorrection := false
    waitPolicy := .untilIdle
    nofbPolicy := .drain
    nofbDelay := Config.openNofbDelay
    pollInterval := Config.openPollIntervalLessOne + 1
    resetSettleDefault := Config.openResetSettle
    rxBatchMax := Config.openRxBatchMaxLessOne + 1
    resetWaits := true
    timeoutCheckAlways := false
    volumeCode := 0x06#8
    trackCode := 0x03#8
    eqCode := 0x07#8
    sourceCode := 0x09#8
    loopallCode := 0x11#8 }

end Sys2Proof
end

