-- ==== Sys2Proof/Syntax.lean ====
section
/-! DEFINITION. The instructions: one constructor for each row of spec/opcode_table.json. -/

namespace Sys2Proof

/-- A MessageData: command code, parameter high byte, parameter low byte (10_state.md R23). -/
structure MessageData where
  cmd : Byte
  ph : Byte
  pl : Byte
  deriving DecidableEq, Repr

/-- A 10-byte frame, its positions `F[0]`..`F[9]` by name (30_encoding.md R70). -/
structure Frame where
  start : Byte
  version : Byte
  length : Byte
  cmd : Byte
  fb : Byte
  ph : Byte
  pl : Byte
  ckHi : Byte
  ckLo : Byte
  stop : Byte
  deriving DecidableEq, Repr

/-- The operands of a catalogue frame: every byte of it but the two markers and the command code (30_encoding.md R70). -/
structure FrameOps where
  version : Byte
  length : Byte
  fb : Byte
  ph : Byte
  pl : Byte
  ckHi : Byte
  ckLo : Byte
  deriving DecidableEq, Repr

/-- A call of a host-side wrapper with its argument (45_host_wrappers.md, 30_encoding.md R83). -/
inductive HostCall where
  | sendRaw (md : MessageData)
  | reset
  | setVolume (v : Byte)
  | playTrack (n : Word16)
  | setEqualizer (e : Byte)
  | setPlaybackSource (s : Byte)
  | setLoopAll (b : Bool)
  deriving DecidableEq, Repr

/-- What stands in the host channel: a request word `HREQ` with its side arguments `ARG_TIMEOUT` and `ARG_DELAY`
(30_encoding.md R80), or a wrapper call (log 10). -/
inductive HostItem where
  | word (hreq : Word32) (argTimeout argDelay : Nat)
  | call (c : HostCall)
  deriving DecidableEq, Repr

/-- The instructions. A catalogue row is a received frame of that code (30_encoding.md R76); `unknown` is a frame whose
code is outside the default catalogue; `init` and `send` are the host requests (R80); the `call...` rows are the
pseudo-operations (R83). -/
inductive Instr where
  /-- `NEXT` 0x01: playback control, command. -/
  | next (o : FrameOps)
  /-- `PREVIOUS` 0x02: playback control, command. -/
  | previous (o : FrameOps)
  /-- `PLAY_TRACK` 0x03: track selection, command. -/
  | playTrack (o : FrameOps)
  /-- `VOLUME_UP` 0x04: volume, command. -/
  | volumeUp (o : FrameOps)
  /-- `VOLUME_DOWN` 0x05: volume, command. -/
  | volumeDown (o : FrameOps)
  /-- `SET_VOLUME` 0x06: volume, command. -/
  | setVolume (o : FrameOps)
  /-- `SET_EQ` 0x07: equalizer, command. -/
  | setEq (o : FrameOps)
  /-- `SET_PLAYBACK_MODE` 0x08: playback control, command. -/
  | setPlaybackMode (o : FrameOps)
  /-- `SET_PLAYBACK_SOURCE` 0x09: playback-source selection, command. -/
  | setPlaybackSource (o : FrameOps)
  /-- `SLEEP` 0x0A: sleep/reset, command. -/
  | sleep (o : FrameOps)
  /-- `WAKE` 0x0B: sleep/reset, command. -/
  | wake (o : FrameOps)
  /-- `RESET` 0x0C: sleep/reset, command. -/
  | reset (o : FrameOps)
  /-- `PLAY` 0x0D: playback control, command. -/
  | play (o : FrameOps)
  /-- `PAUSE` 0x0E: playback control, command. -/
  | pause (o : FrameOps)
  /-- `PLAY_FOLDER_TRACK` 0x0F: folder selection, command. -/
  | playFolderTrack (o : FrameOps)
  /-- `VOLUME_ADJUST` 0x10: volume, command. -/
  | volumeAdjust (o : FrameOps)
  /-- `LOOP_ALL` 0x11: playback control, command. -/
  | loopAll (o : FrameOps)
  /-- `PLAY_MP3_FOLDER` 0x12: track selection, command. -/
  | playMp3Folder (o : FrameOps)
  /-- `ADVERT` 0x13: track selection, command. -/
  | advert (o : FrameOps)
  /-- `PLAY_LARGE_FOLDER` 0x14: folder selection, command. -/
  | playLargeFolder (o : FrameOps)
  /-- `STOP_ADVERT` 0x15: playback control, command. -/
  | stopAdvert (o : FrameOps)
  /-- `STOP` 0x16: playback control, command. -/
  | stop (o : FrameOps)
  /-- `LOOP_FOLDER` 0x17: folder selection, command. -/
  | loopFolder (o : FrameOps)
  /-- `RANDOM` 0x18: playback control, command. -/
  | random (o : FrameOps)
  /-- `LOOP_CURRENT` 0x19: playback control, command. -/
  | loopCurrent (o : FrameOps)
  /-- `DAC` 0x1A: DAC control, command. -/
  | dac (o : FrameOps)
  /-- `MEDIA_INSERTED` 0x3A: media event, notification. -/
  | mediaInserted (o : FrameOps)
  /-- `MEDIA_REMOVED` 0x3B: media event, notification. -/
  | mediaRemoved (o : FrameOps)
  /-- `FINISHED_USB` 0x3C: track finished, notification. -/
  | finishedUsb (o : FrameOps)
  /-- `FINISHED_SD` 0x3D: track finished, notification. -/
  | finishedSd (o : FrameOps)
  /-- `FINISHED_FLASH` 0x3E: track finished, notification. -/
  | finishedFlash (o : FrameOps)
  /-- `INIT_COMPLETE` 0x3F: media event, notification. -/
  | initComplete (o : FrameOps)
  /-- `ERROR` 0x40: error, notification. -/
  | error (o : FrameOps)
  /-- `ACK` 0x41: acknowledgement, notification. -/
  | ack (o : FrameOps)
  /-- `QUERY_STATUS` 0x42: status query, both. -/
  | queryStatus (o : FrameOps)
  /-- `QUERY_VOLUME` 0x43: volume query, both. -/
  | queryVolume (o : FrameOps)
  /-- `QUERY_EQ` 0x44: EQ query, both. -/
  | queryEq (o : FrameOps)
  /-- `QUERY_PLAYBACK_MODE` 0x45: status query, both. -/
  | queryPlaybackMode (o : FrameOps)
  /-- `QUERY_VERSION` 0x46: status query, both. -/
  | queryVersion (o : FrameOps)
  /-- `QUERY_USB_FILES` 0x47: track-count query, both. -/
  | queryUsbFiles (o : FrameOps)
  /-- `QUERY_SD_FILES` 0x48: track-count query, both. -/
  | querySdFiles (o : FrameOps)
  /-- `QUERY_FLASH_FILES` 0x49: track-count query, both. -/
  | queryFlashFiles (o : FrameOps)
  /-- `QUERY_USB_TRACK` 0x4B: status query, both. -/
  | queryUsbTrack (o : FrameOps)
  /-- `QUERY_SD_TRACK` 0x4C: status query, both. -/
  | querySdTrack (o : FrameOps)
  /-- `QUERY_FLASH_TRACK` 0x4D: status query, both. -/
  | queryFlashTrack (o : FrameOps)
  /-- `QUERY_FOLDER_FILES` 0x4E: track-count query, both. -/
  | queryFolderFiles (o : FrameOps)
  /-- `QUERY_FOLDERS` 0x4F: track-count query, both. -/
  | queryFolders (o : FrameOps)
  /-- `UNKNOWN`: a frame with any other code (30_encoding.md R78, 41_codec.md R112). -/
  | unknown (code : Byte) (o : FrameOps)
  /-- `INIT`: `override` says whether `delay` (`ARG_DELAY`) is used; `timeout` is `ARG_TIMEOUT` (43_session.md R170). -/
  | init (override feedback : Bool) (timeout delay : Nat)
  /-- `SEND cmd, ph, pl` (43_session.md R150). -/
  | send (cmd ph pl : Byte)
  /-- `send_raw(md)` (45_host_wrappers.md R200). -/
  | callSendRaw (cmd ph pl : Byte)
  /-- `reset()` (R201). -/
  | callReset
  /-- `set_volume(v)` (R202). -/
  | callSetVolume (v : Byte)
  /-- `play_track(n)` (R203). -/
  | callPlayTrack (n : Word16)
  /-- `set_equalizer(e)` (R204). -/
  | callSetEqualizer (e : Byte)
  /-- `set_playback_source(src)` (R205). -/
  | callSetPlaybackSource (src : Byte)
  /-- `set_loop_all(b)` (R206). -/
  | callSetLoopAll (b : Bool)
  deriving DecidableEq, Repr

end Sys2Proof
end

