-- ==== Sys2Proof/WellFormed.lean ====
section
/-! DEFINITION. Which instruction terms stand for something the encodings can spell (30_encoding.md R76, R80). -/

namespace Sys2Proof

/-- A term is well formed when its row's encoding can spell it. Every operand of every row has the width of its field, so
the one check is that `unknown` does not carry a code that the default catalogue lists (R76: such a frame is that row's). -/
def Instr.wellFormed (i : Instr) : Bool :=
  match i with
  | .next _ | .previous _ | .playTrack _ | .volumeUp _ | .volumeDown _
  | .setVolume _ | .setEq _ | .setPlaybackMode _ | .setPlaybackSource _ | .sleep _
  | .wake _ | .reset _ | .play _ | .pause _ | .playFolderTrack _
  | .volumeAdjust _ | .loopAll _ | .playMp3Folder _ | .advert _ | .playLargeFolder _
  | .stopAdvert _ | .stop _ | .loopFolder _ | .random _ | .loopCurrent _
  | .dac _ | .mediaInserted _ | .mediaRemoved _ | .finishedUsb _ | .finishedSd _
  | .finishedFlash _ | .initComplete _ | .error _ | .ack _ | .queryStatus _
  | .queryVolume _ | .queryEq _ | .queryPlaybackMode _ | .queryVersion _ | .queryUsbFiles _
  | .querySdFiles _ | .queryFlashFiles _ | .queryUsbTrack _ | .querySdTrack _ | .queryFlashTrack _
  | .queryFolderFiles _ | .queryFolders _ => true
  | .unknown code _ => !(Config.catalogue.contains code)
  | .init _ _ _ _ => true
  | .send _ _ _ => true
  | .callSendRaw _ _ _ => true
  | .callReset => true
  | .callSetVolume _ => true
  | .callPlayTrack _ => true
  | .callSetEqualizer _ => true
  | .callSetPlaybackSource _ => true
  | .callSetLoopAll _ => true

end Sys2Proof
end

