-- ==== Sys2Proof/Decode.lean ====
section
/-! DEFINITION. Decoding and encoding (30_encoding.md): the wire frame, the host request word, the wrapper calls, and how
the opcode table's numbers are laid out. -/

namespace Sys2Proof

/-! ### Bit fields and byte order (00_scope.md section 5, 20_memory.md R53) -/

def hi8 (v : Word16) : Byte := v.extractLsb' 8 8
def lo8 (v : Word16) : Byte := v.extractLsb' 0 8
/-- `cat16(h, l) = h * 256 + l`: every 16-bit field of a frame is high byte first (20_memory.md R53). -/
def cat16 (h l : Byte) : Word16 := BitVec.ofNat 16 (h.toNat * 256 + l.toNat)

/-! ### The wire frame (30_encoding.md R70) -/

/-- The ten bytes in wire order, `F[0]` first (20_memory.md R52). -/
def Frame.bytes (f : Frame) : List Byte :=
  [f.start, f.version, f.length, f.cmd, f.fb, f.ph, f.pl, f.ckHi, f.ckLo, f.stop]

/-- Ten bytes as a frame; any other number of bytes is no frame (30_encoding.md R79). -/
def Frame.ofBytes? (l : List Byte) : Option Frame :=
  match l with
  | [a, b, c, d, e, f, g, h, i, j] => some ⟨a, b, c, d, e, f, g, h, i, j⟩
  | _ => none

def Frame.ops (f : Frame) : FrameOps :=
  ⟨f.version, f.length, f.fb, f.ph, f.pl, f.ckHi, f.ckLo⟩

/-- The frame with code `c` and operands `o`, between the two markers. -/
def frameOf (c : Byte) (o : FrameOps) : Frame :=
  ⟨Config.startMark, o.version, o.length, c, o.fb, o.ph, o.pl, o.ckHi, o.ckLo, Config.endMark⟩

/-- Why bytes or a host word spell no instruction. -/
inductive DecodeError where
  /-- not ten bytes (30_encoding.md R79) -/
  | badLength
  /-- byte 0 is not `START_MARK` (30_encoding.md R78 (3)) -/
  | badStart
  /-- byte 9 is not `END_MARK` (30_encoding.md R78 (3)) -/
  | badEnd
  /-- the op field of a host word is neither 0x1 nor 0x2 (30_encoding.md R81) -/
  | reservedOp
  /-- a bit that R80 marks 0 is set (30_encoding.md R81) -/
  | reservedBits
  deriving DecidableEq, Repr

/-- The rows of the default catalogue: each code with its instruction (30_encoding.md R76, spec/opcode_table.json). -/
def catalogueRows : List (Byte × (FrameOps → Instr)) :=
  [(0x01#8, .next), (0x02#8, .previous), (0x03#8, .playTrack), (0x04#8, .volumeUp)]
    ++ [(0x05#8, .volumeDown), (0x06#8, .setVolume), (0x07#8, .setEq), (0x08#8, .setPlaybackMode)]
    ++ [(0x09#8, .setPlaybackSource), (0x0A#8, .sleep), (0x0B#8, .wake), (0x0C#8, .reset)]
    ++ [(0x0D#8, .play), (0x0E#8, .pause), (0x0F#8, .playFolderTrack), (0x10#8, .volumeAdjust)]
    ++ [(0x11#8, .loopAll), (0x12#8, .playMp3Folder), (0x13#8, .advert), (0x14#8, .playLargeFolder)]
    ++ [(0x15#8, .stopAdvert), (0x16#8, .stop), (0x17#8, .loopFolder), (0x18#8, .random)]
    ++ [(0x19#8, .loopCurrent), (0x1A#8, .dac), (0x3A#8, .mediaInserted), (0x3B#8, .mediaRemoved)]
    ++ [(0x3C#8, .finishedUsb), (0x3D#8, .finishedSd), (0x3E#8, .finishedFlash), (0x3F#8, .initComplete)]
    ++ [(0x40#8, .error), (0x41#8, .ack), (0x42#8, .queryStatus), (0x43#8, .queryVolume)]
    ++ [(0x44#8, .queryEq), (0x45#8, .queryPlaybackMode), (0x46#8, .queryVersion), (0x47#8, .queryUsbFiles)]
    ++ [(0x48#8, .querySdFiles), (0x49#8, .queryFlashFiles), (0x4B#8, .queryUsbTrack), (0x4C#8, .querySdTrack)]
    ++ [(0x4D#8, .queryFlashTrack), (0x4E#8, .queryFolderFiles), (0x4F#8, .queryFolders)]

/-- The row of the opcode table that a completed frame belongs to, by byte 3 alone (30_encoding.md R76, R77). The rows are
those of the default catalogue; whether the code is in `KNOWN_CODES` is tested when the frame is executed (log 11). -/
def decodeFrame (f : Frame) : Instr :=
  match catalogueRows.find? (fun r => r.1 == f.cmd) with
  | some r => r.2 f.ops
  | none => .unknown f.cmd f.ops

/-- Decoding of any bytes as a wire frame. -/
def decodeWire (l : List Byte) : Except DecodeError Instr :=
  match Frame.ofBytes? l with
  | none => .error .badLength
  | some f =>
    if f.start = Config.startMark then
      if f.stop = Config.endMark then .ok (decodeFrame f) else .error .badEnd
    else .error .badStart

/-! ### The host request word (30_encoding.md R80, R81) -/

def hreqOp (w : Word32) : BitVec 4 := w.extractLsb' 28 4
def hreqCmd (w : Word32) : Byte := w.extractLsb' 16 8
def hreqPh (w : Word32) : Byte := w.extractLsb' 8 8
def hreqPl (w : Word32) : Byte := w.extractLsb' 0 8

/-- The block's decoder of a request word with its side arguments. -/
def decodeRequest (w : Word32) (argTimeout argDelay : Nat) : Except DecodeError Instr :=
  if hreqOp w = 0x1#4 then
    if w.extractLsb' 2 26 = 0#26 then
      .ok (.init (w.getLsbD 1) (w.getLsbD 0) argTimeout argDelay)
    else .error .reservedBits
  else if hreqOp w = 0x2#4 then
    if w.extractLsb' 24 4 = 0#4 then .ok (.send (hreqCmd w) (hreqPh w) (hreqPl w))
    else .error .reservedBits
  else .error .reservedOp

/-- A wrapper call as an instruction (30_encoding.md R83). -/
def decodeCall (c : HostCall) : Instr :=
  match c with
  | .sendRaw md => .callSendRaw md.cmd md.ph md.pl
  | .reset => .callReset
  | .setVolume v => .callSetVolume v
  | .playTrack n => .callPlayTrack n
  | .setEqualizer e => .callSetEqualizer e
  | .setPlaybackSource x => .callSetPlaybackSource x
  | .setLoopAll b => .callSetLoopAll b

/-- Decoding of what stands in the host channel. -/
def decodeHost (h : HostItem) : Except DecodeError Instr :=
  match h with
  | .word w t d => decodeRequest w t d
  | .call c => .ok (decodeCall c)

/-! ### Encoding -/

/-- The two places an instruction comes from: the wire and the host channel. -/
inductive Encoded where
  | wire (bytes : List Byte)
  | host (item : HostItem)
  deriving DecidableEq, Repr

/-- Decoding from either place; total on any bytes and any host item. -/
def decode (e : Encoded) : Except DecodeError Instr :=
  match e with
  | .wire l => decodeWire l
  | .host h => decodeHost h

def wireOf (c : Byte) (o : FrameOps) : Encoded := .wire (frameOf c o).bytes

/-- The `INIT` word: `0x10000000 | (override_valid << 1) | feedback_enabled` (30_encoding.md R80), written
as a sum since no two of its terms share a bit. -/
def encodeInitWord (override feedback : Bool) : Word32 :=
  BitVec.ofNat 32 (0x10000000 + override.toNat * 2 + feedback.toNat)

/-- The `SEND` word: `0x20000000 | (cmd << 16) | (ph << 8) | pl` (30_encoding.md R80). -/
def encodeSendWord (cmd ph pl : Byte) : Word32 :=
  BitVec.ofNat 32 (0x20000000 + cmd.toNat * 65536 + ph.toNat * 256 + pl.toNat)

/-- The encoding of an instruction. -/
def encode (i : Instr) : Encoded :=
  match i with
  | .next o => wireOf 0x01#8 o
  | .previous o => wireOf 0x02#8 o
  | .playTrack o => wireOf 0x03#8 o
  | .volumeUp o => wireOf 0x04#8 o
  | .volumeDown o => wireOf 0x05#8 o
  | .setVolume o => wireOf 0x06#8 o
  | .setEq o => wireOf 0x07#8 o
  | .setPlaybackMode o => wireOf 0x08#8 o
  | .setPlaybackSource o => wireOf 0x09#8 o
  | .sleep o => wireOf 0x0A#8 o
  | .wake o => wireOf 0x0B#8 o
  | .reset o => wireOf 0x0C#8 o
  | .play o => wireOf 0x0D#8 o
  | .pause o => wireOf 0x0E#8 o
  | .playFolderTrack o => wireOf 0x0F#8 o
  | .volumeAdjust o => wireOf 0x10#8 o
  | .loopAll o => wireOf 0x11#8 o
  | .playMp3Folder o => wireOf 0x12#8 o
  | .advert o => wireOf 0x13#8 o
  | .playLargeFolder o => wireOf 0x14#8 o
  | .stopAdvert o => wireOf 0x15#8 o
  | .stop o => wireOf 0x16#8 o
  | .loopFolder o => wireOf 0x17#8 o
  | .random o => wireOf 0x18#8 o
  | .loopCurrent o => wireOf 0x19#8 o
  | .dac o => wireOf 0x1A#8 o
  | .mediaInserted o => wireOf 0x3A#8 o
  | .mediaRemoved o => wireOf 0x3B#8 o
  | .finishedUsb o => wireOf 0x3C#8 o
  | .finishedSd o => wireOf 0x3D#8 o
  | .finishedFlash o => wireOf 0x3E#8 o
  | .initComplete o => wireOf 0x3F#8 o
  | .error o => wireOf 0x40#8 o
  | .ack o => wireOf 0x41#8 o
  | .queryStatus o => wireOf 0x42#8 o
  | .queryVolume o => wireOf 0x43#8 o
  | .queryEq o => wireOf 0x44#8 o
  | .queryPlaybackMode o => wireOf 0x45#8 o
  | .queryVersion o => wireOf 0x46#8 o
  | .queryUsbFiles o => wireOf 0x47#8 o
  | .querySdFiles o => wireOf 0x48#8 o
  | .queryFlashFiles o => wireOf 0x49#8 o
  | .queryUsbTrack o => wireOf 0x4B#8 o
  | .querySdTrack o => wireOf 0x4C#8 o
  | .queryFlashTrack o => wireOf 0x4D#8 o
  | .queryFolderFiles o => wireOf 0x4E#8 o
  | .queryFolders o => wireOf 0x4F#8 o
  | .unknown c o => wireOf c o
  | .init ov fb t d => .host (.word (encodeInitWord ov fb) t d)
  | .send cmd ph pl => .host (.word (encodeSendWord cmd ph pl) 0 0)
  | .callSendRaw cmd ph pl => .host (.call (.sendRaw ⟨cmd, ph, pl⟩))
  | .callReset => .host (.call .reset)
  | .callSetVolume v => .host (.call (.setVolume v))
  | .callPlayTrack n => .host (.call (.playTrack n))
  | .callSetEqualizer e => .host (.call (.setEqualizer e))
  | .callSetPlaybackSource x => .host (.call (.setPlaybackSource x))
  | .callSetLoopAll b => .host (.call (.setLoopAll b))

/-- The code and operands of an instruction that is a wire frame. -/
def Instr.frame? (i : Instr) : Option (Byte × FrameOps) :=
  match i with
  | .next o => some (0x01#8, o)
  | .previous o => some (0x02#8, o)
  | .playTrack o => some (0x03#8, o)
  | .volumeUp o => some (0x04#8, o)
  | .volumeDown o => some (0x05#8, o)
  | .setVolume o => some (0x06#8, o)
  | .setEq o => some (0x07#8, o)
  | .setPlaybackMode o => some (0x08#8, o)
  | .setPlaybackSource o => some (0x09#8, o)
  | .sleep o => some (0x0A#8, o)
  | .wake o => some (0x0B#8, o)
  | .reset o => some (0x0C#8, o)
  | .play o => some (0x0D#8, o)
  | .pause o => some (0x0E#8, o)
  | .playFolderTrack o => some (0x0F#8, o)
  | .volumeAdjust o => some (0x10#8, o)
  | .loopAll o => some (0x11#8, o)
  | .playMp3Folder o => some (0x12#8, o)
  | .advert o => some (0x13#8, o)
  | .playLargeFolder o => some (0x14#8, o)
  | .stopAdvert o => some (0x15#8, o)
  | .stop o => some (0x16#8, o)
  | .loopFolder o => some (0x17#8, o)
  | .random o => some (0x18#8, o)
  | .loopCurrent o => some (0x19#8, o)
  | .dac o => some (0x1A#8, o)
  | .mediaInserted o => some (0x3A#8, o)
  | .mediaRemoved o => some (0x3B#8, o)
  | .finishedUsb o => some (0x3C#8, o)
  | .finishedSd o => some (0x3D#8, o)
  | .finishedFlash o => some (0x3E#8, o)
  | .initComplete o => some (0x3F#8, o)
  | .error o => some (0x40#8, o)
  | .ack o => some (0x41#8, o)
  | .queryStatus o => some (0x42#8, o)
  | .queryVolume o => some (0x43#8, o)
  | .queryEq o => some (0x44#8, o)
  | .queryPlaybackMode o => some (0x45#8, o)
  | .queryVersion o => some (0x46#8, o)
  | .queryUsbFiles o => some (0x47#8, o)
  | .querySdFiles o => some (0x48#8, o)
  | .queryFlashFiles o => some (0x49#8, o)
  | .queryUsbTrack o => some (0x4B#8, o)
  | .querySdTrack o => some (0x4C#8, o)
  | .queryFlashTrack o => some (0x4D#8, o)
  | .queryFolderFiles o => some (0x4E#8, o)
  | .queryFolders o => some (0x4F#8, o)
  | .unknown c o => some (c, o)
  | .init _ _ _ _ => none
  | .send _ _ _ => none
  | .callSendRaw _ _ _ => none
  | .callReset => none
  | .callSetVolume _ => none
  | .callPlayTrack _ => none
  | .callSetEqualizer _ => none
  | .callSetPlaybackSource _ => none
  | .callSetLoopAll _ => none

/-! ### The numbers of spec/opcode_table.json (log 17) -/

/-- The ten bytes of an 80-bit number of the table: its `match` puts `F[0]` in the highest byte. A number that has the two
markers the other way round numbers the first byte lowest, and is read so. -/
def tableBytes (w : Nat) : List Byte :=
  let be : List Byte := [72, 64, 56, 48, 40, 32, 24, 16, 8, 0].map (fun k => BitVec.ofNat 8 (w >>> k))
  if be.head? = some Config.endMark ∧ be.getLast? = some Config.startMark then be.reverse else be

/-- A 32-bit number of the table as a host item. The pseudo-operation rows have words of `SEND`; the row with the longest
mask counts, so that such a number is the wrapper call; every other number is a request word for the block. -/
def tableItem (w : Nat) : HostItem :=
  let h : Word32 := BitVec.ofNat 32 w
  if h = 0x200C0000#32 then .call .reset
  else if h &&& 0xFFFFFFFE#32 = 0x20110000#32 then .call (.setLoopAll (h.getLsbD 0))
  else if h &&& 0xFFFFFF00#32 = 0x20060000#32 then .call (.setVolume (h.extractLsb' 0 8))
  else if h &&& 0xFFFFFF00#32 = 0x20070000#32 then .call (.setEqualizer (h.extractLsb' 0 8))
  else if h &&& 0xFFFFFF00#32 = 0x20090000#32 then .call (.setPlaybackSource (h.extractLsb' 0 8))
  else if h &&& 0xFFFF0000#32 = 0x20030000#32 then .call (.playTrack (h.extractLsb' 0 16))
  else .word h 0 0

/-- The instruction the decoder reads from a number of the table. -/
def decodeTableWord (nbits w : Nat) : Option Instr :=
  if nbits ≤ 32 then (decodeHost (tableItem w)).toOption
  else if nbits ≤ 80 then (decodeWire (tableBytes w)).toOption
  else none

end Sys2Proof
end

