-- ==== Sys2Proof/Machine/State.lean ====
section
/-! DEFINITION. The state of the machine: every register of 10_state.md, the operands of the running procedure, the fixed
parameters, and the agents around the engine (00_scope.md R6) as plain data. -/

namespace Sys2Proof.Machine

/-- `CTRL`, the control state of the session engine (10_state.md R21). -/
inductive Ctrl where
  | uninit
  | idle
  | tx
  | waitPoll
  | waitSleep
  | waitRead
  | waitScan
  | waitPending
  | nofbSleep
  | drainPoll
  | drainRead
  | drainScan
  | initFlush1
  | initSend
  | initSettle
  | initFlush2
  deriving DecidableEq, Repr

/-- `SC_PHASE` (10_state.md R28): `AwaitingStart`, `Accumulating(i)` as `acc i`, `AwaitingEnd`. -/
inductive Phase where
  | awaitingStart
  | acc1
  | acc2
  | acc3
  | acc4
  | acc5
  | acc6
  | acc7
  | acc8
  | awaitingEnd
  deriving DecidableEq, Repr

/-- The outcome of a host operation (60_exceptions.md R221). -/
inductive Result where
  | ok
  | transport (e : Token)
  | badChecksum (c : Byte)
  | unknownCommand (c : Byte)
  | failedAck
  | moduleError (b : Byte)
  | userTimeout
  | badParameter
  | init (e : Token)
  deriving DecidableEq, Repr

/-- The agents around the engine: the host channel and what the host was told, the transport's coming answers and the
bytes it took for the wire, the time source, the block reset input, and the counter of free draws (logs 2 to 7, 15). -/
structure Env where
  /-- Host items still to be taken, the next one first (00_scope.md R7). -/
  channel : List HostItem
  /-- What the last host call returned (60_exceptions.md R220, 45_host_wrappers.md R207). -/
  hostReply : Option Result
  polls : List PollAnswer
  reads : List ReadAnswer
  writes : List WriteAnswer
  /-- By how much each coming `Now()` moves on, or each coming `Sleep` overruns (00_scope.md R5). -/
  ticks : List Nat
  /-- The block reset input, one bit a step; no bit means no reset (70_reset_and_hazards.md R250). -/
  resets : List Bool
  /-- Every byte that reached the wire, in order (20_memory.md R52, R55). -/
  txStream : List Byte
  now : Nat
  draws : Nat
  deriving DecidableEq, Repr

/-- The state. The first block is 10_state.md R20, register by register. -/
structure State where
  ctrl : Ctrl
  cfgFeedback : Bool
  cfgTimeout : Nat
  lastSent : Option MessageData
  lastResp : Option MessageData
  ackSeen : Bool
  fbuf : Frame
  phase : Phase
  rxb : List Byte
  rxbLen : Nat
  rxbIdx : Nat
  waitStart : Nat
  waitAckreq : Bool
  opTxFail : Bool
  result : Option Result
  /-- The one-deep return mark: the reset `SEND` inside `INIT` is running (10_state.md R21). -/
  nested : Bool
  /-- Operand of the running `SEND` (43_session.md R150). -/
  opMd : MessageData
  /-- Operand `override` of the running `INIT` (43_session.md R170). -/
  opOverride : Option Nat
  /-- The flush's poll answered `ready`; its read is due (43_session.md R172, log 14). -/
  flushRead : Bool
  /-- The parameters, fixed for the life of the instance (00_scope.md R4, log 8). -/
  params : Params
  env : Env
  deriving DecidableEq, Repr

/-- The reasons for which the machine could stop with a fault: none. The block has no traps (60_exceptions.md R220); what
the spec treats as a fault is a result of an operation, which goes on (log 22). -/
inductive Fault where
  deriving DecidableEq, Repr

/-- The reasons for which a step is refused. -/
inductive Refusal where
  /-- Raised by an arm of `exec` that has no meaning yet: none is left. Safe. -/
  | notModelled (mnemonic : String)
  /-- Raised by every step of a machine whose parameter set breaks 00_scope.md R3, which asks for this refusal. Safe. -/
  | inadmissibleParameters
  /-- Raised when the host offers a word that spells no operation (30_encoding.md R81, which asks for it). Safe. -/
  | badRequest (e : DecodeError)
  /-- Raised when a request other than `INIT` is offered in `UNINIT` (30_encoding.md R81, which asks for it). Safe. -/
  | requestBeforeInit
  deriving DecidableEq, Repr

/-- A frame buffer of zeros, the reset value the model names for `FBUF` (DESIGN CHOICE, log 9). -/
def zeroFrame : Frame := ⟨0#8, 0#8, 0#8, 0#8, 0#8, 0#8, 0#8, 0#8, 0#8, 0#8⟩

/-- No agent has anything to say yet: nothing is offered, no answer is listed, time is 0 (logs 2, 3, 6, 7, 9, 15). -/
def Env.reset : Env :=
  { channel := [], hostReply := none, polls := [], reads := [], writes := [], ticks := [], resets := [],
    txStream := [], now := 0, draws := 0 }

/-- The machine right after a block reset (10_state.md R35, 70_reset_and_hazards.md R250). The registers R35 leaves
unspecified have the values log 9 names. -/
def State.reset : State :=
  { ctrl := .uninit
    cfgFeedback := false
    cfgTimeout := 0
    lastSent := none
    lastResp := none
    ackSeen := false
    fbuf := zeroFrame
    phase := .awaitingStart
    rxb := List.replicate Params.default.rxBatchMax 0#8
    rxbLen := 0
    rxbIdx := 0
    waitStart := 0
    waitAckreq := false
    opTxFail := false
    result := none
    nested := false
    opMd := ⟨0#8, 0#8, 0#8⟩
    opOverride := none
    flushRead := false
    params := Params.default
    env := Env.reset }

end Sys2Proof.Machine
end

