-- ==== Sys2Proof/Machine/Checksum.lean ====
section
/-! DEFINITION. The checksum unit (40_checksum.md): combinational, no state of its own (R105). -/

namespace Sys2Proof.Machine

/-- `CKSUM` (40_checksum.md R100, R101): the negated 16-bit sum of frame bytes 1 to 6, with the legacy correction of 2 when
`corr` (`CKSUM_ZERO_CMD_CORRECTION`) is set and the command byte `p2` is 0. -/
def cksum (corr : Bool) (p0 p1 p2 p3 p4 p5 : Byte) : Word16 :=
  let s := (p0.toNat + p1.toNat + p2.toNat + p3.toNat + p4.toNat + p5.toNat) % 65536
  let c := (65536 - s) % 65536
  BitVec.ofNat 16 (if corr && p2 == 0x00#8 then (c + 2) % 65536 else c)

/-- `CKSUM` over the payload of a frame. -/
def frameCksum (corr : Bool) (f : Frame) : Word16 :=
  cksum corr f.version f.length f.cmd f.fb f.ph f.pl

/-- `CKSUM_CHECK` (40_checksum.md R102). -/
def cksumCheck (corr : Bool) (f : Frame) : Bool := cat16 f.ckHi f.ckLo == frameCksum corr f

end Sys2Proof.Machine
end

