-- ==== Sys2Proof/Machine/Operands.lean ====
section
/-! DEFINITION. Operand assembly (30_encoding.md R72, R73; 43_session.md R170). -/

namespace Sys2Proof.Machine

/-- The feedback flag byte of a sent frame (30_encoding.md R72). -/
def feedbackByte (fb : Bool) : Byte := if fb then Config.fbOn else Config.fbOff

/-- The MessageData a frame carries (41_codec.md R111). -/
def Frame.message (f : Frame) : MessageData := ⟨f.cmd, f.ph, f.pl⟩

/-- The 16-bit parameter of a MessageData (30_encoding.md R73). -/
def MessageData.param (md : MessageData) : Word16 := cat16 md.ph md.pl

/-- A command with a 16-bit parameter: high byte at `ph`, low byte at `pl` (30_encoding.md R73). -/
def message16 (cmd : Byte) (p : Word16) : MessageData := ⟨cmd, hi8 p, lo8 p⟩

/-- A command with an 8-bit parameter: `ph` is 0 (30_encoding.md R73). -/
def message8 (cmd v : Byte) : MessageData := ⟨cmd, 0x00#8, v⟩

/-- The parameter byte of a Boolean (45_host_wrappers.md R206). -/
def boolByte (b : Bool) : Byte := if b then 0x01#8 else 0x00#8

/-- The `override` operand of `INIT`: `ARG_DELAY` counts only when the word's bit 1 is set (30_encoding.md R80). -/
def overrideOf (valid : Bool) (delay : Nat) : Option Nat := if valid then some delay else none

/-- The reset command's MessageData (43_session.md R170). -/
def resetMessage (p : Params) : MessageData := ⟨p.resetCode, 0x00#8, 0x00#8⟩

/-- How long the settle sleep lasts (43_session.md R173). -/
def settleTime (s : State) : Nat := s.opOverride.getD s.params.resetSettleDefault

end Sys2Proof.Machine
end

