-- ==== Sys2Proof/Machine/Codec.lean ====
section
/-! DEFINITION. The frame codec (41_codec.md): `ENCODE` and `DECODE`, both combinational. -/

namespace Sys2Proof.Machine

/-- `ENCODE(md, fb)` (41_codec.md R110); `md.cmd` is not checked against the catalogue (R117). -/
def encodeFrame (corr : Bool) (md : MessageData) (fb : Bool) : Frame :=
  let c := cksum corr Config.version Config.length md.cmd (feedbackByte fb) md.ph md.pl
  { start := Config.startMark
    version := Config.version
    length := Config.length
    cmd := md.cmd
    fb := feedbackByte fb
    ph := md.ph
    pl := md.pl
    ckHi := hi8 c
    ckLo := lo8 c
    stop := Config.endMark }

/-- What `DECODE` returns (41_codec.md R111). -/
inductive Decoded where
  | unknown (code : Byte)
  | decoded (md : MessageData) (fb : Byte) (rxck : Word16) (ok : Bool)
  deriving DecidableEq, Repr

/-- `DECODE(F)` (41_codec.md R111 to R115): the catalogue test comes first, and an unknown code's checksum is not looked at. -/
def decodeOutput (p : Params) (f : Frame) : Decoded :=
  if p.knownCodes.contains f.cmd then
    .decoded (Frame.message f) f.fb (cat16 f.ckHi f.ckLo) (cksumCheck p.cksumZeroCmdCorrection f)
  else .unknown f.cmd

/-- The kind of a completed frame, by byte 3 alone (30_encoding.md R77). -/
inductive FrameKind where
  | ack
  | error
  | info
  | unknown
  deriving DecidableEq, Repr

def frameKind (p : Params) (code : Byte) : FrameKind :=
  if p.knownCodes.contains code then
    if code = Config.ackCode then .ack else if code = Config.errorCode then .error else .info
  else .unknown

end Sys2Proof.Machine
end

