-- ==== Sys2Proof/Machine/Ops.lean ====
section
/-! DEFINITION. The shared operations: taking an answer of the transport, letting time pass, the wire, the read batch, and
ending an operation with a result, which is this block's exception (60_exceptions.md R225), with the return beside it. -/

namespace Sys2Proof.Machine

/-! ### Control -/

def State.goto (s : State) (c : Ctrl) : State := { s with ctrl := c }

/-- Busy: `CTRL` is neither `IDLE` nor `UNINIT` (10_state.md R32). -/
def State.busy (s : State) : Bool := !(s.ctrl == .idle) && !(s.ctrl == .uninit)

/-! ### The block reset input -/

/-- The reset input in this step (70_reset_and_hazards.md R250, log 7). -/
def State.resetNow (s : State) : Bool := s.env.resets.head?.getD false

def State.afterResetInput (s : State) : State := { s with env := { s.env with resets := s.env.resets.tail } }

/-- A block reset (70_reset_and_hazards.md R250, R251): every register at its reset value, an operation in flight abandoned
without a result, and the transport, the time source and the host channel not told. -/
def blockReset (s : State) : State :=
  { State.reset with
      rxb := List.replicate s.params.rxBatchMax 0#8
      params := s.params
      env := s.env }

/-! ### Answers of the transport (20_memory.md R55 to R57): the next listed one, else a free draw (log 2) -/

def State.freeDraw (s : State) : State := { s with env := { s.env with draws := s.env.draws + 1 } }

/-- The answer to an `RxPoll` issued now. -/
def State.pollAnswer (s : State) : PollAnswer :=
  match s.env.polls with
  | a :: _ => a
  | [] => Config.freePoll s.env.draws

def State.afterPoll (s : State) : State :=
  match s.env.polls with
  | _ :: rest => { s with env := { s.env with polls := rest } }
  | [] => s.freeDraw

/-- The answer to a `TxWrite` issued now. -/
def State.writeAnswer (s : State) : WriteAnswer :=
  match s.env.writes with
  | a :: _ => a
  | [] => Config.freeWrite s.env.draws

def State.afterWrite (s : State) : State :=
  match s.env.writes with
  | _ :: rest => { s with env := { s.env with writes := rest } }
  | [] => s.freeDraw

/-- What the transport has for the next `RxRead`. -/
def State.nextRead (s : State) : ReadAnswer :=
  match s.env.reads with
  | a :: _ => a
  | [] => Config.freeRead s.env.draws

/-- At most `m` bytes come back from one read (20_memory.md R56). -/
def ReadAnswer.limit (m : Nat) (a : ReadAnswer) : ReadAnswer :=
  match a with
  | .batch l => .batch (l.take m)
  | .terr e => .terr e
  | .suspended => .suspended

/-- The bytes beyond the limit stay in the transport for the next read (20_memory.md R56, log 4). -/
def ReadAnswer.leftOver (m : Nat) (a : ReadAnswer) : List ReadAnswer :=
  match a with
  | .batch l => if l.length ≤ m then [] else [.batch (l.drop m)]
  | .terr _ => []
  | .suspended => []

/-- The answer to an `RxRead` issued now. -/
def State.readAnswer (s : State) : ReadAnswer := ReadAnswer.limit s.params.rxBatchMax s.nextRead

def State.afterRead (s : State) : State :=
  match s.env.reads with
  | a :: rest =>
    { s with env := { s.env with reads := ReadAnswer.leftOver s.params.rxBatchMax a ++ rest } }
  | [] =>
    { s.freeDraw with
        env := { s.freeDraw.env with reads := ReadAnswer.leftOver s.params.rxBatchMax s.nextRead } }

/-- Bytes reach the wire, first byte first (20_memory.md R52). -/
def State.putWire (s : State) (l : List Byte) : State :=
  { s with env := { s.env with txStream := s.env.txStream ++ l } }

/-! ### Time (00_scope.md R5) -/

/-- By how much time moves on beyond what was asked for: the next listed tick, else a free draw (log 3). -/
def State.tick (s : State) : Nat :=
  match s.env.ticks with
  | t :: _ => t
  | [] => Config.freeTick s.env.draws

def State.afterTick (s : State) : State :=
  match s.env.ticks with
  | _ :: rest => { s with env := { s.env with ticks := rest } }
  | [] => s.freeDraw

/-- Time passes: at least `d`, and a tick more. The end of `Sleep(d)`; with `d = 0`, a reading of `Now()`. -/
def State.passTime (s : State) (d : Nat) : State :=
  { s.afterTick with env := { s.afterTick.env with now := s.env.now + d + s.tick } }

/-! ### The read batch (10_state.md R29) -/

/-- A successful read loads its batch; positions beyond it keep what they held. -/
def State.loadBatch (s : State) (l : List Byte) : State :=
  { s with rxb := l ++ s.rxb.drop l.length, rxbLen := l.length, rxbIdx := 0 }

/-- Bytes of the batch remain to be scanned. -/
def State.moreInBatch (s : State) : Bool := decide (s.rxbIdx < s.rxbLen)

/-- The next byte of the batch, `RXB[RXB_IDX]`. -/
def State.nextByte? (s : State) : Option Byte := if s.moreInBatch then s.rxb[s.rxbIdx]? else none

def State.consume (s : State) : State := { s with rxbIdx := s.rxbIdx + 1 }

/-! ### Ending an operation (43_session.md R169, R171; 60_exceptions.md R225, R226) -/

/-- The host operation ends: `RESULT` is written, the batch registers are cleared, `CTRL` is `IDLE`, the host is told, and
everything else stays. -/
def State.endOperation (s : State) (r : Result) : State :=
  { s with
      ctrl := .idle
      result := some r
      rxbLen := 0
      rxbIdx := 0
      env := { s.env with hostReply := some r } }

/-- The return from the nested reset `SEND` to `INIT` with its result: a failed write ends `INIT` with `INIT(e)`, any other
result is dropped and the settle sleep starts (43_session.md R170, R171). -/
def State.returnToInit (s : State) (r : Result) : State :=
  match s.opTxFail, r with
  | true, .transport e => { s with nested := false }.endOperation (.init e)
  | _, _ => { s with nested := false, ctrl := .initSettle }

/-- `finish X` (00_scope.md section 5, 43_session.md R169, R171). -/
def State.finish (s : State) (r : Result) : State :=
  if s.nested then s.returnToInit r else s.endOperation r

/-- `BAD_PARAMETER`: the wrapper tells its caller, and nothing else happens (45_host_wrappers.md R207). -/
def State.replyBadParameter (s : State) : State :=
  { s with env := { s.env with hostReply := some .badParameter } }

end Sys2Proof.Machine
end

