-- ==== Sys2Proof/Machine/Flags.lean ====
section
/-! DEFINITION. The one flag, `ACK_SEEN`, and the conditions over it (10_state.md R26, R34). -/

namespace Sys2Proof.Machine

/-- `ACK_SEEN <- 0`, after a successful write (43_session.md R150). -/
def State.clearAck (s : State) : State := { s with ackSeen := false }

/-- The acknowledgement match of a valid frame: the command code alone (43_session.md R158). -/
def State.matchAck (s : State) (cmd : Byte) : State :=
  { s with ackSeen := s.ackSeen || cmd == Config.ackCode }

/-- The end-of-wait check fails: an acknowledgement is required and none was seen (43_session.md R161). -/
def State.ackMissing (s : State) : Bool := s.waitAckreq && !s.ackSeen

end Sys2Proof.Machine
end

