-- ==== Sys2Proof/Machine/Scanner.lean ====
section
/-! DEFINITION. The stream scanner (42_scanner.md): one received byte a step. -/

namespace Sys2Proof.Machine

/-- The events of `SCAN` (42_scanner.md R130). -/
inductive ScanEvent where
  | none
  | drop
  | resync
  | complete
  deriving DecidableEq, Repr

/-- `SCAN(b)` over `SC_PHASE` and `FBUF` (42_scanner.md R130 to R134). -/
def scan (p : Phase) (f : Frame) (b : Byte) : ScanEvent × Phase × Frame :=
  match p with
  | .awaitingStart =>
    if b = Config.startMark then (.none, .acc1, { f with start := b }) else (.drop, .awaitingStart, f)
  | .acc1 => (.none, .acc2, { f with version := b })
  | .acc2 => (.none, .acc3, { f with length := b })
  | .acc3 => (.none, .acc4, { f with cmd := b })
  | .acc4 => (.none, .acc5, { f with fb := b })
  | .acc5 => (.none, .acc6, { f with ph := b })
  | .acc6 => (.none, .acc7, { f with pl := b })
  | .acc7 => (.none, .acc8, { f with ckHi := b })
  | .acc8 => (.none, .awaitingEnd, { f with ckLo := b })
  | .awaitingEnd =>
    if b = Config.endMark then (.complete, .awaitingStart, { f with stop := b })
    else (.resync, .awaitingStart, f)

/-- Scanning a string of bytes: the events in order, and where the scanner stands afterwards. -/
def scanAll (p : Phase) (f : Frame) (l : List Byte) : List ScanEvent × Phase × Frame :=
  match l with
  | [] => ([], p, f)
  | b :: rest =>
    let r := scan p f b
    let t := scanAll r.2.1 r.2.2 rest
    (r.1 :: t.1, t.2)

/-- The 4-bit code of a phase, the next position to fill (10_state.md R28). -/
def Phase.code (p : Phase) : BitVec 4 :=
  match p with
  | .awaitingStart => 0#4
  | .acc1 => 1#4
  | .acc2 => 2#4
  | .acc3 => 3#4
  | .acc4 => 4#4
  | .acc5 => 5#4
  | .acc6 => 6#4
  | .acc7 => 7#4
  | .acc8 => 8#4
  | .awaitingEnd => 9#4

/-- The event a byte gives in this state. -/
def State.scanEvent (s : State) (b : Byte) : ScanEvent := (scan s.phase s.fbuf b).1

/-- `SCAN(b)` on the machine's registers. -/
def State.scanByte (s : State) (b : Byte) : State :=
  { s with phase := (scan s.phase s.fbuf b).2.1, fbuf := (scan s.phase s.fbuf b).2.2 }

end Sys2Proof.Machine
end

