-- ==== Sys2Proof/Machine/Session.lean ====
section
/-! DEFINITION. The session engine (43_session.md): how operations start, and the steps of a running one. A step runs from
the answer it takes up to the next call (log 1). -/

namespace Sys2Proof.Machine

/-! ### Starting (43_session.md R149, R150, R170) -/

/-- `SEND(md)` starts: the frame is offered to the transport next, and nothing is nested. -/
def State.startSend (s : State) (md : MessageData) : State :=
  { s with ctrl := .tx, opTxFail := false, opMd := md, nested := false }

/-- A `SEND` is offered: taken in `IDLE` (43_session.md R149), refused in `UNINIT` (30_encoding.md R81), not taken while the
engine is busy (00_scope.md R7, log 12). -/
def State.offerSend (s : State) (md : MessageData) : Host.Outcome State Fault Refusal :=
  match s.ctrl with
  | .idle => .next (s.startSend md)
  | .uninit => .refused .requestBeforeInit
  | _ => .next s

/-- `INIT(fb, timeout, override)` starts: the configuration is written, the session and the scanner are cleared, and the
first flush comes next (43_session.md R170). -/
def State.startInit (s : State) (fb : Bool) (timeout : Nat) (override : Option Nat) : State :=
  { s with
      ctrl := .initFlush1
      cfgFeedback := fb
      cfgTimeout := timeout
      lastSent := none
      lastResp := none
      ackSeen := false
      phase := .awaitingStart
      rxbLen := 0
      rxbIdx := 0
      nested := false
      opOverride := override
      flushRead := false }

/-- An `INIT` is offered: taken in `UNINIT` and in `IDLE`, not taken while the engine is busy (43_session.md R149). -/
def State.offerInit (s : State) (fb : Bool) (timeout : Nat) (override : Option Nat) :
    Host.Outcome State Fault Refusal :=
  if s.busy then .next s else .next (s.startInit fb timeout override)

/-! ### The write (43_session.md R150, R151) -/

/-- `WAIT(req)` starts (43_session.md R155): `WAIT_START <- Now()`, after the write (70_reset_and_hazards.md R269). -/
def State.startWait (s : State) (req : Bool) : State :=
  { s.passTime 0 with ctrl := .waitPoll, waitAckreq := req, waitStart := (s.passTime 0).env.now }

/-- `NOFB()` starts (43_session.md R166). -/
def State.startNofb (s : State) : State :=
  match s.params.nofbPolicy with
  | .drain => s.goto .drainPoll
  | .fixedDelay => s.goto .nofbSleep

/-- The path after a successful write (43_session.md R151). -/
def State.choosePath (s : State) : State :=
  if s.opMd.cmd = s.params.resetCode then
    if s.cfgFeedback && s.params.resetWaits then s.startWait false else s.startNofb
  else if s.cfgFeedback then s.startWait true
  else s.startNofb

/-- The frame the running `SEND` offers. -/
def State.txFrame (s : State) : Frame := encodeFrame s.params.cksumZeroCmdCorrection s.opMd s.cfgFeedback

/-- `OP_TXFAIL <- 1` (10_state.md R30). -/
def State.markTxFail (s : State) : State := { s with opTxFail := true }

/-- Step 2 of `SEND`: the command is recorded as sent and `ACK_SEEN` cleared (43_session.md R150). -/
def State.recordSent (s : State) : State := { s.clearAck with lastSent := some s.opMd }

/-- The step in `TX` and in `INIT_SEND`: one `TxWrite` with its answer. -/
def txStep (s : State) : State :=
  match s.writeAnswer with
  | .suspended => s.afterWrite
  | .terr e k => (s.afterWrite.putWire (s.txFrame.bytes.take k)).markTxFail.finish (.transport e)
  | .ok => (s.afterWrite.putWire s.txFrame.bytes).recordSent.choosePath

/-! ### The wait (43_session.md R155 to R165) -/

/-- The poll of a poll point together with the `Now()` of the same line (43_session.md R148, R155). -/
def State.timedPoll (s : State) : State := s.afterPoll.passTime 0

/-- `Now() - WAIT_START >= CFG_TIMEOUT` (43_session.md R157). -/
def State.timeoutElapsed (s : State) : Bool := decide (s.cfgTimeout ≤ s.env.now - s.waitStart)

/-- At a poll point (43_session.md R157): the elapsed time is looked at on `notready`, and with `TIMEOUT_CHECK_ALWAYS` on
`ready` too. -/
def waitPollStep (s : State) : State :=
  match s.pollAnswer with
  | .terr e => s.afterPoll.finish (.transport e)
  | .ready =>
    if s.params.timeoutCheckAlways && s.timedPoll.timeoutElapsed then s.timedPoll.finish .userTimeout
    else s.timedPoll.goto .waitRead
  | .notready =>
    if s.timedPoll.timeoutElapsed then s.timedPoll.finish .userTimeout else s.timedPoll.goto .waitSleep

/-- The end of `Sleep(POLL_INTERVAL)` (43_session.md R165). -/
def waitSleepStep (s : State) : State := (s.passTime s.params.pollInterval).goto .waitPoll

/-- A read, to be scanned in state `scanning` or, when it is empty, followed by a poll in state `polling`
(43_session.md R156, R167). -/
def readStep (s : State) (scanning polling : Ctrl) : State :=
  match s.readAnswer with
  | .suspended => s.afterRead
  | .terr e => s.afterRead.finish (.transport e)
  | .batch l => (s.afterRead.loadBatch l).goto (if l.isEmpty then polling else scanning)

/-- The poll after a frame completed with the batch exhausted (42_scanner.md R137, 43_session.md R160 to R162). -/
def waitPendingStep (s : State) : State :=
  match s.pollAnswer with
  | .terr e => s.afterPoll.finish (.transport e)
  | .ready => s.afterPoll.goto .waitRead
  | .notready => if s.ackMissing then s.afterPoll.finish .failedAck else s.afterPoll.finish .ok

/-! ### The no-feedback path (43_session.md R166 to R168) -/

/-- The end of `Sleep(NOFB_DELAY)`. -/
def nofbSleepStep (s : State) : State := (s.passTime s.params.nofbDelay).finish .ok

def drainPollStep (s : State) : State :=
  match s.pollAnswer with
  | .terr e => s.afterPoll.finish (.transport e)
  | .notready => s.afterPoll.finish .ok
  | .ready => s.afterPoll.goto .drainRead

/-! ### The rest of INIT (43_session.md R170 to R173) -/

/-- After the first flush the reset `SEND` starts, nested in `INIT_SEND` (43_session.md R171, log 13). -/
def State.startResetSend (s : State) : State :=
  { s.startSend (resetMessage s.params) with ctrl := .initSend, nested := true, flushRead := false }

/-- What follows a flush: the reset `SEND` after the first, the end of `INIT` after the second. -/
def State.afterFlush (s : State) : State :=
  if s.ctrl = .initFlush1 then s.startResetSend else { s with flushRead := false }.finish .ok

/-- `FLUSH()` (43_session.md R172): a poll, and only if it is `ready` one read, whose bytes and errors are dropped. -/
def flushStep (s : State) : State :=
  if s.flushRead then
    match s.readAnswer with
    | .suspended => s.afterRead
    | .terr _ => s.afterRead.afterFlush
    | .batch _ => s.afterRead.afterFlush
  else
    match s.pollAnswer with
    | .ready => { s.afterPoll with flushRead := true }
    | .notready => s.afterPoll.afterFlush
    | .terr _ => s.afterPoll.afterFlush

/-- The end of the settle sleep (43_session.md R173). -/
def settleStep (s : State) : State :=
  { s.passTime (settleTime s) with ctrl := .initFlush2, flushRead := false }

/-! ### A completed frame (43_session.md R158 to R161, R167) -/

/-- Scanning goes on: with the batch, or, when it is exhausted, at the next poll. -/
def State.continueScan (s : State) : State :=
  if s.moreInBatch then s else s.goto (if s.ctrl = .waitScan then .waitPoll else .drainPoll)

/-- The policy decision after a valid frame that is not an error notification (43_session.md R160). -/
def State.waitPolicyEnd (s : State) : State :=
  match s.params.waitPolicy with
  | .anyFrame => s.finish .ok
  | .strictAck => if s.ackSeen || !s.waitAckreq then s.finish .ok else s.continueScan
  | .untilIdle => if s.moreInBatch then s else s.goto .waitPending

/-- What `INTERPRET(m)` writes (43_session.md R158): `LAST_RESP`, and `ACK_SEEN` when the command matches. -/
def State.keepResponse (s : State) (m : MessageData) : State := { s.matchAck m.cmd with lastResp := some m }

/-- `INTERPRET(m)` (43_session.md R158) and what follows it in the wait and in the drain. -/
def State.interpret (s : State) (m : MessageData) : State :=
  if m.cmd = Config.errorCode then (s.keepResponse m).finish (.moduleError m.pl)
  else if s.ctrl = .waitScan then (s.keepResponse m).waitPolicyEnd
  else (s.keepResponse m).continueScan

/-- A frame has completed: `DECODE`, then its end or its interpretation (43_session.md R158, R159). -/
def State.completeFrame (s : State) (f : Frame) : State :=
  match decodeOutput s.params f with
  | .unknown c => s.finish (.unknownCommand c)
  | .decoded m _ _ false => s.finish (.badChecksum m.cmd)
  | .decoded m _ _ true => s.interpret m

/-- The meaning all frame rows share: a frame is executed where the scanner completes it, in `WAIT_SCAN` or `DRAIN_SCAN`
(42_scanner.md R136); in any other state the engine does not look at it (60_exceptions.md R223, log 12). -/
def executeFrame (c : Byte) (o : FrameOps) (s : State) : Host.Outcome State Fault Refusal :=
  if s.ctrl = .waitScan ∨ s.ctrl = .drainScan then .next (s.completeFrame (frameOf c o)) else .next s

end Sys2Proof.Machine
end

