-- ==== Sys2Proof/Machine/Commands.lean ====
section
/-! DEFINITION. The meanings of the frames with a command code (30_encoding.md R76). Received, such a frame is an INFO frame like any other: the engine
does not check direction (R77). Sent, it is what `SEND` puts on the wire (43_session.md R150, `txStep`).
Each is one line over the shared `executeFrame` (43_session.md R158, R159). -/

namespace Sys2Proof.Machine

/-- `NEXT`, code 0x01 (playback control). -/
def execNext (o : FrameOps) (s : State) : Host.Outcome State Fault Refusal := executeFrame 0x01#8 o s

/-- `PREVIOUS`, code 0x02 (playback control). -/
def execPrevious (o : FrameOps) (s : State) : Host.Outcome State Fault Refusal := executeFrame 0x02#8 o s

/-- `PLAY_TRACK`, code 0x03 (track selection). -/
def execPlayTrack (o : FrameOps) (s : State) : Host.Outcome State Fault Refusal := executeFrame 0x03#8 o s

/-- `VOLUME_UP`, code 0x04 (volume). -/
def execVolumeUp (o : FrameOps) (s : State) : Host.Outcome State Fault Refusal := executeFrame 0x04#8 o s

/-- `VOLUME_DOWN`, code 0x05 (volume). -/
def execVolumeDown (o : FrameOps) (s : State) : Host.Outcome State Fault Refusal := executeFrame 0x05#8 o s

/-- `SET_VOLUME`, code 0x06 (volume). -/
def execSetVolume (o : FrameOps) (s : State) : Host.Outcome State Fault Refusal := executeFrame 0x06#8 o s

/-- `SET_EQ`, code 0x07 (equalizer). -/
def execSetEq (o : FrameOps) (s : State) : Host.Outcome State Fault Refusal := executeFrame 0x07#8 o s

/-- `SET_PLAYBACK_MODE`, code 0x08 (playback control). -/
def execSetPlaybackMode (o : FrameOps) (s : State) : Host.Outcome State Fault Refusal := executeFrame 0x08#8 o s

/-- `SET_PLAYBACK_SOURCE`, code 0x09 (playback-source selection). -/
def execSetPlaybackSource (o : FrameOps) (s : State) : Host.Outcome State Fault Refusal := executeFrame 0x09#8 o s

/-- `SLEEP`, code 0x0A (sleep/reset). -/
def execSleep (o : FrameOps) (s : State) : Host.Outcome State Fault Refusal := executeFrame 0x0A#8 o s

/-- `WAKE`, code 0x0B (sleep/reset). -/
def execWake (o : FrameOps) (s : State) : Host.Outcome State Fault Refusal := executeFrame 0x0B#8 o s

/-- `RESET`, code 0x0C (sleep/reset). -/
def execReset (o : FrameOps) (s : State) : Host.Outcome State Fault Refusal := executeFrame 0x0C#8 o s

/-- `PLAY`, code 0x0D (playback control). -/
def execPlay (o : FrameOps) (s : State) : Host.Outcome State Fault Refusal := executeFrame 0x0D#8 o s

/-- `PAUSE`, code 0x0E (playback control). -/
def execPause (o : FrameOps) (s : State) : Host.Outcome State Fault Refusal := executeFrame 0x0E#8 o s

/-- `PLAY_FOLDER_TRACK`, code 0x0F (folder selection). -/
def execPlayFolderTrack (o : FrameOps) (s : State) : Host.Outcome State Fault Refusal := executeFrame 0x0F#8 o s

/-- `VOLUME_ADJUST`, code 0x10 (volume). -/
def execVolumeAdjust (o : FrameOps) (s : State) : Host.Outcome State Fault Refusal := executeFrame 0x10#8 o s

/-- `LOOP_ALL`, code 0x11 (playback control). -/
def execLoopAll (o : FrameOps) (s : State) : Host.Outcome State Fault Refusal := executeFrame 0x11#8 o s

/-- `PLAY_MP3_FOLDER`, code 0x12 (track selection). -/
def execPlayMp3Folder (o : FrameOps) (s : State) : Host.Outcome State Fault Refusal := executeFrame 0x12#8 o s

/-- `ADVERT`, code 0x13 (track selection). -/
def execAdvert (o : FrameOps) (s : State) : Host.Outcome State Fault Refusal := executeFrame 0x13#8 o s

/-- `PLAY_LARGE_FOLDER`, code 0x14 (folder selection). -/
def execPlayLargeFolder (o : FrameOps) (s : State) : Host.Outcome State Fault Refusal := executeFrame 0x14#8 o s

/-- `STOP_ADVERT`, code 0x15 (playback control). -/
def execStopAdvert (o : FrameOps) (s : State) : Host.Outcome State Fault Refusal := executeFrame 0x15#8 o s

/-- `STOP`, code 0x16 (playback control). -/
def execStop (o : FrameOps) (s : State) : Host.Outcome State Fault Refusal := executeFrame 0x16#8 o s

/-- `LOOP_FOLDER`, code 0x17 (folder selection). -/
def execLoopFolder (o : FrameOps) (s : State) : Host.Outcome State Fault Refusal := executeFrame 0x17#8 o s

/-- `RANDOM`, code 0x18 (playback control). -/
def execRandom (o : FrameOps) (s : State) : Host.Outcome State Fault Refusal := executeFrame 0x18#8 o s

/-- `LOOP_CURRENT`, code 0x19 (playback control). -/
def execLoopCurrent (o : FrameOps) (s : State) : Host.Outcome State Fault Refusal := executeFrame 0x19#8 o s

/-- `DAC`, code 0x1A (DAC control). -/
def execDac (o : FrameOps) (s : State) : Host.Outcome State Fault Refusal := executeFrame 0x1A#8 o s

end Sys2Proof.Machine
end

