-- ==== Sys2Proof/Machine/Notifications.lean ====
section
/-! DEFINITION. The meanings of the notification frames (30_encoding.md R76): the acknowledgement, the error notification, the media and track
events, and a frame outside the default catalogue.
Each is one line over the shared `executeFrame` (43_session.md R158, R159). -/

namespace Sys2Proof.Machine

/-- `MEDIA_INSERTED`, code 0x3A (media event). -/
def execMediaInserted (o : FrameOps) (s : State) : Host.Outcome State Fault Refusal := executeFrame 0x3A#8 o s

/-- `MEDIA_REMOVED`, code 0x3B (media event). -/
def execMediaRemoved (o : FrameOps) (s : State) : Host.Outcome State Fault Refusal := executeFrame 0x3B#8 o s

/-- `FINISHED_USB`, code 0x3C (track finished). -/
def execFinishedUsb (o : FrameOps) (s : State) : Host.Outcome State Fault Refusal := executeFrame 0x3C#8 o s

/-- `FINISHED_SD`, code 0x3D (track finished). -/
def execFinishedSd (o : FrameOps) (s : State) : Host.Outcome State Fault Refusal := executeFrame 0x3D#8 o s

/-- `FINISHED_FLASH`, code 0x3E (track finished). -/
def execFinishedFlash (o : FrameOps) (s : State) : Host.Outcome State Fault Refusal := executeFrame 0x3E#8 o s

/-- `INIT_COMPLETE`, code 0x3F (media event). -/
def execInitComplete (o : FrameOps) (s : State) : Host.Outcome State Fault Refusal := executeFrame 0x3F#8 o s

/-- `ERROR`, code 0x40 (error). -/
def execError (o : FrameOps) (s : State) : Host.Outcome State Fault Refusal := executeFrame 0x40#8 o s

/-- `ACK`, code 0x41 (acknowledgement). -/
def execAck (o : FrameOps) (s : State) : Host.Outcome State Fault Refusal := executeFrame 0x41#8 o s

/-- `UNKNOWN`: a frame whose code is outside the default catalogue (41_codec.md R112). -/
def execUnknown (code : Byte) (o : FrameOps) (s : State) : Host.Outcome State Fault Refusal := executeFrame code o s

end Sys2Proof.Machine
end

