-- ==== Sys2Proof/Machine/Queries.lean ====
section
/-! DEFINITION. The meanings of the query frames (30_encoding.md R76), sent as queries and received as their replies.
Each is one line over the shared `executeFrame` (43_session.md R158, R159). -/

namespace Sys2Proof.Machine

/-- `QUERY_STATUS`, code 0x42 (status query). -/
def execQueryStatus (o : FrameOps) (s : State) : Host.Outcome State Fault Refusal := executeFrame 0x42#8 o s

/-- `QUERY_VOLUME`, code 0x43 (volume query). -/
def execQueryVolume (o : FrameOps) (s : State) : Host.Outcome State Fault Refusal := executeFrame 0x43#8 o s

/-- `QUERY_EQ`, code 0x44 (EQ query). -/
def execQueryEq (o : FrameOps) (s : State) : Host.Outcome State Fault Refusal := executeFrame 0x44#8 o s

/-- `QUERY_PLAYBACK_MODE`, code 0x45 (status query). -/
def execQueryPlaybackMode (o : FrameOps) (s : State) : Host.Outcome State Fault Refusal := executeFrame 0x45#8 o s

/-- `QUERY_VERSION`, code 0x46 (status query). -/
def execQueryVersion (o : FrameOps) (s : State) : Host.Outcome State Fault Refusal := executeFrame 0x46#8 o s

/-- `QUERY_USB_FILES`, code 0x47 (track-count query). -/
def execQueryUsbFiles (o : FrameOps) (s : State) : Host.Outcome State Fault Refusal := executeFrame 0x47#8 o s

/-- `QUERY_SD_FILES`, code 0x48 (track-count query). -/
def execQuerySdFiles (o : FrameOps) (s : State) : Host.Outcome State Fault Refusal := executeFrame 0x48#8 o s

/-- `QUERY_FLASH_FILES`, code 0x49 (track-count query). -/
def execQueryFlashFiles (o : FrameOps) (s : State) : Host.Outcome State Fault Refusal := executeFrame 0x49#8 o s

/-- `QUERY_USB_TRACK`, code 0x4B (status query). -/
def execQueryUsbTrack (o : FrameOps) (s : State) : Host.Outcome State Fault Refusal := executeFrame 0x4B#8 o s

/-- `QUERY_SD_TRACK`, code 0x4C (status query). -/
def execQuerySdTrack (o : FrameOps) (s : State) : Host.Outcome State Fault Refusal := executeFrame 0x4C#8 o s

/-- `QUERY_FLASH_TRACK`, code 0x4D (status query). -/
def execQueryFlashTrack (o : FrameOps) (s : State) : Host.Outcome State Fault Refusal := executeFrame 0x4D#8 o s

/-- `QUERY_FOLDER_FILES`, code 0x4E (track-count query). -/
def execQueryFolderFiles (o : FrameOps) (s : State) : Host.Outcome State Fault Refusal := executeFrame 0x4E#8 o s

/-- `QUERY_FOLDERS`, code 0x4F (track-count query). -/
def execQueryFolders (o : FrameOps) (s : State) : Host.Outcome State Fault Refusal := executeFrame 0x4F#8 o s

end Sys2Proof.Machine
end

