-- ==== Sys2Proof/Machine/Requests.lean ====
section
/-! DEFINITION. The meanings of the host requests `INIT` and `SEND` (30_encoding.md R80): what the step that accepts them does
(43_session.md R148, R149). Their procedures then run in the steps of Session.lean. -/

namespace Sys2Proof.Machine

/-- `INIT` (43_session.md R170). -/
def execInit (override feedback : Bool) (timeout delay : Nat) (s : State) : Host.Outcome State Fault Refusal :=
  s.offerInit feedback timeout (overrideOf override delay)

/-- `SEND cmd, ph, pl` (43_session.md R150). -/
def execSend (cmd ph pl : Byte) (s : State) : Host.Outcome State Fault Refusal := s.offerSend ⟨cmd, ph, pl⟩

end Sys2Proof.Machine
end

