-- ==== Sys2Proof/Machine/Wrappers.lean ====
section
/-! DEFINITION. The meanings of the host-side pseudo-operations (45_host_wrappers.md): the argument check, which comes first
and needs no session (R208), then one `SEND` with the wrapper's parameter code (30_encoding.md R83). -/

namespace Sys2Proof.Machine

/-- `send_raw(md)` (45_host_wrappers.md R200). -/
def execCallSendRaw (cmd ph pl : Byte) (s : State) : Host.Outcome State Fault Refusal := s.offerSend ⟨cmd, ph, pl⟩

/-- `reset()` (45_host_wrappers.md R201). -/
def execCallReset (s : State) : Host.Outcome State Fault Refusal := s.offerSend (resetMessage s.params)

/-- `set_volume(v)` (45_host_wrappers.md R202, R207). -/
def execCallSetVolume (v : Byte) (s : State) : Host.Outcome State Fault Refusal :=
  if Config.volumeMax < v then .next s.replyBadParameter else s.offerSend (message8 s.params.volumeCode v)

/-- `play_track(n)` (45_host_wrappers.md R203, R207). -/
def execCallPlayTrack (n : Word16) (s : State) : Host.Outcome State Fault Refusal :=
  if Config.trackMax < n then .next s.replyBadParameter else s.offerSend (message16 s.params.trackCode n)

/-- `set_equalizer(e)` (45_host_wrappers.md R204): any byte is sent. -/
def execCallSetEqualizer (e : Byte) (s : State) : Host.Outcome State Fault Refusal :=
  s.offerSend (message8 s.params.eqCode e)

/-- `set_playback_source(src)` (45_host_wrappers.md R205): any byte is sent. -/
def execCallSetPlaybackSource (src : Byte) (s : State) : Host.Outcome State Fault Refusal :=
  s.offerSend (message8 s.params.sourceCode src)

/-- `set_loop_all(b)` (45_host_wrappers.md R206). -/
def execCallSetLoopAll (b : Bool) (s : State) : Host.Outcome State Fault Refusal :=
  s.offerSend (message8 s.params.loopallCode (boolByte b))

end Sys2Proof.Machine
end

