-- ==== Sys2Proof/Machine/Dispatch.lean ====
section
/-! DEFINITION. One arm for each instruction. -/

namespace Sys2Proof.Machine

def exec (i : Instr) (s : State) : Host.Outcome State Fault Refusal :=
  match i with
  | .next o => Sys2Proof.Machine.execNext o s
  | .previous o => Sys2Proof.Machine.execPrevious o s
  | .playTrack o => Sys2Proof.Machine.execPlayTrack o s
  | .volumeUp o => Sys2Proof.Machine.execVolumeUp o s
  | .volumeDown o => Sys2Proof.Machine.execVolumeDown o s
  | .setVolume o => Sys2Proof.Machine.execSetVolume o s
  | .setEq o => Sys2Proof.Machine.execSetEq o s
  | .setPlaybackMode o => Sys2Proof.Machine.execSetPlaybackMode o s
  | .setPlaybackSource o => Sys2Proof.Machine.execSetPlaybackSource o s
  | .sleep o => Sys2Proof.Machine.execSleep o s
  | .wake o => Sys2Proof.Machine.execWake o s
  | .reset o => Sys2Proof.Machine.execReset o s
  | .play o => Sys2Proof.Machine.execPlay o s
  | .pause o => Sys2Proof.Machine.execPause o s
  | .playFolderTrack o => Sys2Proof.Machine.execPlayFolderTrack o s
  | .volumeAdjust o => Sys2Proof.Machine.execVolumeAdjust o s
  | .loopAll o => Sys2Proof.Machine.execLoopAll o s
  | .playMp3Folder o => Sys2Proof.Machine.execPlayMp3Folder o s
  | .advert o => Sys2Proof.Machine.execAdvert o s
  | .playLargeFolder o => Sys2Proof.Machine.execPlayLargeFolder o s
  | .stopAdvert o => Sys2Proof.Machine.execStopAdvert o s
  | .stop o => Sys2Proof.Machine.execStop o s
  | .loopFolder o => Sys2Proof.Machine.execLoopFolder o s
  | .random o => Sys2Proof.Machine.execRandom o s
  | .loopCurrent o => Sys2Proof.Machine.execLoopCurrent o s
  | .dac o => Sys2Proof.Machine.execDac o s
  | .mediaInserted o => Sys2Proof.Machine.execMediaInserted o s
  | .mediaRemoved o => Sys2Proof.Machine.execMediaRemoved o s
  | .finishedUsb o => Sys2Proof.Machine.execFinishedUsb o s
  | .finishedSd o => Sys2Proof.Machine.execFinishedSd o s
  | .finishedFlash o => Sys2Proof.Machine.execFinishedFlash o s
  | .initComplete o => Sys2Proof.Machine.execInitComplete o s
  | .error o => Sys2Proof.Machine.execError o s
  | .ack o => Sys2Proof.Machine.execAck o s
  | .queryStatus o => Sys2Proof.Machine.execQueryStatus o s
  | .queryVolume o => Sys2Proof.Machine.execQueryVolume o s
  | .queryEq o => Sys2Proof.Machine.execQueryEq o s
  | .queryPlaybackMode o => Sys2Proof.Machine.execQueryPlaybackMode o s
  | .queryVersion o => Sys2Proof.Machine.execQueryVersion o s
  | .queryUsbFiles o => Sys2Proof.Machine.execQueryUsbFiles o s
  | .querySdFiles o => Sys2Proof.Machine.execQuerySdFiles o s
  | .queryFlashFiles o => Sys2Proof.Machine.execQueryFlashFiles o s
  | .queryUsbTrack o => Sys2Proof.Machine.execQueryUsbTrack o s
  | .querySdTrack o => Sys2Proof.Machine.execQuerySdTrack o s
  | .queryFlashTrack o => Sys2Proof.Machine.execQueryFlashTrack o s
  | .queryFolderFiles o => Sys2Proof.Machine.execQueryFolderFiles o s
  | .queryFolders o => Sys2Proof.Machine.execQueryFolders o s
  | .unknown code o => Sys2Proof.Machine.execUnknown code o s
  | .init override feedback timeout delay => Sys2Proof.Machine.execInit override feedback timeout delay s
  | .send cmd ph pl => Sys2Proof.Machine.execSend cmd ph pl s
  | .callSendRaw cmd ph pl => Sys2Proof.Machine.execCallSendRaw cmd ph pl s
  | .callReset => Sys2Proof.Machine.execCallReset s
  | .callSetVolume v => Sys2Proof.Machine.execCallSetVolume v s
  | .callPlayTrack n => Sys2Proof.Machine.execCallPlayTrack n s
  | .callSetEqualizer e => Sys2Proof.Machine.execCallSetEqualizer e s
  | .callSetPlaybackSource src => Sys2Proof.Machine.execCallSetPlaybackSource src s
  | .callSetLoopAll b => Sys2Proof.Machine.execCallSetLoopAll b s

end Sys2Proof.Machine
end

