-- ==== Sys2Proof/Machine/Engine.lean ====
section
/-! DEFINITION. One engine step (43_session.md R148): accepting what the host offers, one transport call with its answer, the
end of one sleep, or one received byte. And where an instruction is placed so that the next step runs it. -/

namespace Sys2Proof.Machine

/-- The host channel without its next item. -/
def State.takeItem (s : State) : State := { s with env := { s.env with channel := s.env.channel.tail } }

/-- A step in `UNINIT` or `IDLE`: the next item of the host channel is decoded and executed. With nothing offered the engine
waits (70_reset_and_hazards.md R252). -/
def hostStep (s : State) : Host.Outcome State Fault Refusal :=
  match s.env.channel with
  | [] => .next s
  | item :: _ =>
    match decodeHost item with
    | .error e => .refused (.badRequest e)
    | .ok i => exec i s.takeItem

/-- `b <- RXB[RXB_IDX]; RXB_IDX <- RXB_IDX + 1; SCAN(b)` (42_scanner.md R136). -/
def State.takeByte (s : State) (b : Byte) : State := s.consume.scanByte b

/-- A step in `WAIT_SCAN` or `DRAIN_SCAN`: one byte of the batch (42_scanner.md R136). A byte that completes a frame executes
that frame in the same step (42_scanner.md R133); any other event leaves the session alone (43_session.md R164). -/
def scanStep (s : State) : Host.Outcome State Fault Refusal :=
  match s.nextByte? with
  | none => .next s.continueScan
  | some b =>
    match s.scanEvent b with
    | .complete => exec (decodeFrame (s.takeByte b).fbuf) (s.takeByte b)
    | .none => .next (s.takeByte b).continueScan
    | .drop => .next (s.takeByte b).continueScan
    | .resync => .next (s.takeByte b).continueScan

/-- The step `CTRL` names (10_state.md R21). -/
def ctrlStep (s : State) : Host.Outcome State Fault Refusal :=
  match s.ctrl with
  | .uninit => hostStep s
  | .idle => hostStep s
  | .tx => .next (txStep s)
  | .waitPoll => .next (waitPollStep s)
  | .waitSleep => .next (waitSleepStep s)
  | .waitRead => .next (readStep s .waitScan .waitPoll)
  | .waitScan => scanStep s
  | .waitPending => .next (waitPendingStep s)
  | .nofbSleep => .next (nofbSleepStep s)
  | .drainPoll => .next (drainPollStep s)
  | .drainRead => .next (readStep s .drainScan .drainPoll)
  | .drainScan => scanStep s
  | .initFlush1 => .next (flushStep s)
  | .initSend => .next (txStep s)
  | .initSettle => .next (settleStep s)
  | .initFlush2 => .next (flushStep s)

/-- What a block reset leaves of a write in progress: "a `TxWrite` already started delivers whatever it delivers"
(70_reset_and_hazards.md R251), a free part of its frame. -/
def State.abandonWrite (s : State) : State :=
  if s.ctrl = .tx ∨ s.ctrl = .initSend then
    s.freeDraw.putWire (s.txFrame.bytes.take (Config.freeOnWire s.env.draws))
  else s

/-- One step of the machine: a parameter set that breaks 00_scope.md R3 is refused; a block reset comes before anything else
(70_reset_and_hazards.md R251). -/
def engineStep (s : State) : Host.Outcome State Fault Refusal :=
  if s.params.admissible then
    if s.resetNow then .next (blockReset s.afterResetInput.abandonWrite) else ctrlStep s.afterResetInput
  else .refused .inadmissibleParameters

/-! ### Placing an instruction where the next step runs it (log 18) -/

/-- An item is put first into the host channel, the engine ready for it: in `IDLE`, or for an `INIT` word left in `UNINIT`. -/
def State.placeItem (s : State) (h : HostItem) : State :=
  let inUninit : Bool :=
    match h with
    | .word w _ _ => hreqOp w == 0x1#4 && s.ctrl == .uninit
    | .call _ => false
  { s with
      ctrl := if inUninit then .uninit else .idle
      env := { s.env with channel := h :: s.env.channel, resets := false :: s.env.resets } }

/-- The scanner has taken the first nine bytes of the frame, and the tenth is the one byte of the batch. Bytes that do not
begin with `START_MARK` are no frame: only their first byte is put into the batch, and the scanner drops it. -/
def State.placeFrame (s : State) (f : Frame) : State :=
  let started := f.start == Config.startMark
  let b := if started then f.stop else f.start
  { s with
      ctrl := if s.ctrl = .drainScan then .drainScan else .waitScan
      fbuf := if started then { f with stop := s.fbuf.stop } else s.fbuf
      phase := if started then .awaitingEnd else .awaitingStart
      rxb := b :: s.rxb.drop 1
      rxbLen := 1
      rxbIdx := 0
      env := { s.env with resets := false :: s.env.resets } }

/-- The instruction of a number of the opcode table is placed for the next step. -/
def State.placeTableWord (s : State) (nbits w : Nat) : State :=
  if nbits ≤ 32 then s.placeItem (tableItem w)
  else
    match Frame.ofBytes? (tableBytes w) with
    | some f => s.placeFrame f
    | none => s

end Sys2Proof.Machine
end

