-- ==== Sys2Proof/Machine/Step.lean ====
section
/-! DEFINITION. The step of the machine, and how an instruction is placed for it. -/

namespace Sys2Proof.Machine

/-- One step (43_session.md R148). -/
def step (s : State) : Host.Outcome State Fault Refusal := engineStep s

/-- The state whose very next step runs the instruction of a number of the opcode table (log 18). -/
def State.withFetchWord (s : State) (nbits w : Nat) : State := s.placeTableWord nbits w

end Sys2Proof.Machine
end

