-- ==== Sys2Proof/Machine/Classifier.lean ====
section
/-! DEFINITION. The error classifier (44_error_classifier.md). -/

namespace Sys2Proof.Machine

/-- `CLASSIFY(b)` (44_error_classifier.md R190): total, `unknown` outside the map. -/
def classify (p : Params) (b : Byte) : ModuleErrorKind :=
  match p.moduleError? b with
  | some f => .named f
  | none => .unknown

/-- The kind of a `MODULE_ERROR` result (44_error_classifier.md R192); no other result is classified (R193). -/
def Result.kind? (p : Params) (r : Result) : Option ModuleErrorKind :=
  match r with
  | .moduleError b => some (classify p b)
  | _ => none

end Sys2Proof.Machine
end

