-- ==== Sys2Proof/Machine/View.lean ====
section
/-! DEFINITION. The read-only status view (10_state.md R32) and the result encoding (60_exceptions.md R221). Reading it has
no side effect: each word is a function of the state. -/

namespace Sys2Proof.Machine

/-- `RESULT[3:0]` (60_exceptions.md R221). -/
def Result.code (r : Result) : BitVec 4 :=
  match r with
  | .ok => 0x0#4
  | .transport _ => 0x1#4
  | .badChecksum _ => 0x2#4
  | .unknownCommand _ => 0x3#4
  | .failedAck => 0x4#4
  | .moduleError _ => 0x5#4
  | .userTimeout => 0x6#4
  | .badParameter => 0x7#4
  | .init _ => 0x8#4

/-- `RESULT[15:8]` (60_exceptions.md R221); of a token, the free byte a register keeps (93_implementation_defined.md U5). -/
def Result.detail (r : Result) : Byte :=
  match r with
  | .ok => 0#8
  | .transport e => Config.tokenByte e
  | .badChecksum c => c
  | .unknownCommand c => c
  | .failedAck => 0#8
  | .moduleError b => b
  | .userTimeout => 0#8
  | .badParameter => 0#8
  | .init e => Config.tokenByte e

/-- A bit at a position of a view word. -/
def bitAt (b : Bool) (i : Nat) : Nat := if b then 2 ^ i else 0

/-- `STATUS` (10_state.md R32): bits 31..10 read as 0. -/
def State.statusWord (s : State) : Word32 :=
  BitVec.ofNat 32
    (bitAt s.ackSeen 0 + bitAt s.lastSent.isSome 1 + bitAt s.lastResp.isSome 2 + bitAt s.cfgFeedback 3
      + s.phase.code.toNat * 16 + bitAt s.busy 8 + bitAt (!(s.ctrl == .uninit)) 9)

/-- A MessageData in a view word, 0 when there is none (10_state.md R32). Bits 31..24, which R32 does not list, read as 0:
DESIGN CHOICE, log 24. -/
def messageWord (m : Option MessageData) : Word32 :=
  match m with
  | none => 0#32
  | some md => BitVec.ofNat 32 (md.cmd.toNat * 65536 + md.ph.toNat * 256 + md.pl.toNat)

def State.lastSentWord (s : State) : Word32 := messageWord s.lastSent
def State.lastRespWord (s : State) : Word32 := messageWord s.lastResp

/-- `RESULT` (10_state.md R32): code, detail, and the valid bit 16. Bits 7..4 and 31..17, which R32 does not list, read as 0,
and so do code and detail while the valid bit is 0: DESIGN CHOICE, log 24. -/
def State.resultWord (s : State) : Word32 :=
  match s.result with
  | none => 0#32
  | some r => BitVec.ofNat 32 (r.code.toNat + r.detail.toNat * 256 + 65536)

/-- `TIMEOUT`, all of `CFG_TIMEOUT` (10_state.md R32). -/
def State.timeoutView (s : State) : Nat := s.cfgTimeout

end Sys2Proof.Machine
end

