-- ==== Sys2Proof/Safety.lean ====
section
/-! DEFINITION. The terms claims are stated in: groups of control states, what "unchanged" means register by register, how an
operation ends, and the invariant of a sound machine. -/

namespace Sys2Proof.Machine

/-! ### Groups of control states (10_state.md R21) -/

/-- The states that scan received bytes (42_scanner.md R136). -/
def Ctrl.scanning (c : Ctrl) : Prop := c = .waitScan ∨ c = .drainScan

/-- The states of the wait loop (43_session.md R155). -/
def Ctrl.inWait (c : Ctrl) : Prop :=
  c = .waitPoll ∨ c = .waitSleep ∨ c = .waitRead ∨ c = .waitScan ∨ c = .waitPending

/-- The states of the drain path (43_session.md R167). -/
def Ctrl.inDrain (c : Ctrl) : Prop := c = .drainPoll ∨ c = .drainRead ∨ c = .drainScan

/-- The states in which a frame is offered to the transport (43_session.md R150, R171). -/
def Ctrl.writing (c : Ctrl) : Prop := c = .tx ∨ c = .initSend

/-- The states of a `SEND`, nested or not. -/
def Ctrl.inSend (c : Ctrl) : Prop := c.writing ∨ c.inWait ∨ c.inDrain ∨ c = .nofbSleep

/-- The two flushes of `INIT` (43_session.md R172). -/
def Ctrl.flushing (c : Ctrl) : Prop := c = .initFlush1 ∨ c = .initFlush2

/-- The states that take host requests (43_session.md R149). -/
def Ctrl.taking (c : Ctrl) : Prop := c = .idle ∨ c = .uninit

/-! ### Unchanged -/

def SameConfig (s t : State) : Prop := t.cfgFeedback = s.cfgFeedback ∧ t.cfgTimeout = s.cfgTimeout ∧ t.params = s.params

def SameSession (s t : State) : Prop := t.lastSent = s.lastSent ∧ t.lastResp = s.lastResp ∧ t.ackSeen = s.ackSeen

def SameScanner (s t : State) : Prop := t.fbuf = s.fbuf ∧ t.phase = s.phase

def SameBatch (s t : State) : Prop := t.rxb = s.rxb ∧ t.rxbLen = s.rxbLen ∧ t.rxbIdx = s.rxbIdx

/-- The operation-local registers and operands. -/
def SameOperation (s t : State) : Prop :=
  t.waitStart = s.waitStart ∧ t.waitAckreq = s.waitAckreq ∧ t.opTxFail = s.opTxFail ∧ t.opMd = s.opMd
    ∧ t.opOverride = s.opOverride ∧ t.nested = s.nested ∧ t.flushRead = s.flushRead

/-- What the host sees: its channel, the last reply and the result register. -/
def SameHost (s t : State) : Prop :=
  t.env.channel = s.env.channel ∧ t.env.hostReply = s.env.hostReply ∧ t.result = s.result

/-! ### What the transport still has (20_memory.md R55 to R57) -/

/-- The read answers left after one read: a batch that came back is gone (R56), and what was beyond `RX_BATCH_MAX` bytes
comes first in the next read (log 4). -/
def readsLeft (s : State) : List ReadAnswer :=
  match s.nextRead with
  | .batch l =>
    if l.length ≤ s.params.rxBatchMax then s.env.reads.tail
    else .batch (l.drop s.params.rxBatchMax) :: s.env.reads.tail
  | .terr _ => s.env.reads.tail
  | .suspended => s.env.reads.tail

/-- The step asked the transport nothing. -/
def SameTransport (s t : State) : Prop :=
  t.env.polls = s.env.polls ∧ t.env.reads = s.env.reads ∧ t.env.writes = s.env.writes

/-- The step was one poll, which consumes no byte (R57). -/
def PollTaken (s t : State) : Prop :=
  t.env.polls = s.env.polls.tail ∧ t.env.reads = s.env.reads ∧ t.env.writes = s.env.writes

/-- The step was one read, whose bytes are removed from the transport (R56). -/
def ReadTaken (s t : State) : Prop :=
  t.env.polls = s.env.polls ∧ t.env.reads = readsLeft s ∧ t.env.writes = s.env.writes

/-- The step was one write. -/
def WriteTaken (s t : State) : Prop :=
  t.env.polls = s.env.polls ∧ t.env.reads = s.env.reads ∧ t.env.writes = s.env.writes.tail

/-! ### Requests -/

/-- The next item of the host channel is an `INIT` that this state takes (43_session.md R149). -/
def InitTaken (s : State) : Prop :=
  s.ctrl.taking ∧ ∃ h rest ov fb timeout delay,
    s.env.channel = h :: rest ∧ decodeHost h = .ok (.init ov fb timeout delay)

/-! ### How an operation ends (43_session.md R169, R171; 60_exceptions.md R225) -/

/-- The host operation has ended with `r`: these registers and the reply are written, and nothing else. -/
def ended (s : State) (r : Result) : State :=
  { s with ctrl := .idle, result := some r, rxbLen := 0, rxbIdx := 0, env := { s.env with hostReply := some r } }

/-- A `SEND` whose write did not fail has ended with `r`: the host operation ends, or, inside `INIT`, the result is dropped
and the settle sleep begins. That the nested case keeps `RXB_LEN` and `RXB_IDX` is the model's choice (log 13). -/
def sendEnded (s : State) (r : Result) : State :=
  if s.nested = true then { s with nested := false, ctrl := .initSettle } else ended s r

/-- Scanning goes on: with the batch while bytes remain, else at the poll of the same path (43_session.md R155, R167). -/
def scansOn (s : State) : State :=
  if s.rxbIdx < s.rxbLen then s
  else if s.ctrl = .waitScan then { s with ctrl := .waitPoll }
  else { s with ctrl := .drainPoll }

/-! ### Received frames -/

/-- The frame with code `c` and operands `o` carries its own checksum (40_checksum.md R102). -/
def ChecksumMatches (p : Params) (c : Byte) (o : FrameOps) : Prop :=
  o.ckHi.toNat * 256 + o.ckLo.toNat
    = (cksum p.cksumZeroCmdCorrection o.version o.length c o.fb o.ph o.pl).toNat

/-! ### The invariant -/

/-- What holds between any two steps of a sound machine. -/
structure State.Inv (s : State) : Prop where
  /-- 00_scope.md R3 -/
  admissible : s.params.admissible = true
  /-- 10_state.md R29 -/
  batchRoom : s.rxb.length = s.params.rxBatchMax
  batchLen : s.rxbLen ≤ s.params.rxBatchMax
  batchIdx : s.rxbIdx ≤ s.rxbLen
  /-- `finish` clears the batch (43_session.md R169) -/
  batchAtRest : s.ctrl.taking → s.rxbLen = 0 ∧ s.rxbIdx = 0
  /-- a byte is there to be scanned (42_scanner.md R136) -/
  byteToScan : s.ctrl.scanning → s.rxbIdx < s.rxbLen
  /-- a partial frame begins with the start marker (42_scanner.md R131, 10_state.md R27) -/
  started : s.phase ≠ .awaitingStart → s.fbuf.start = Config.startMark
  /-- the one-deep return mark is set only inside `INIT_SEND`, for the reset command (10_state.md R21, 43_session.md R171) -/
  nestedSend : s.nested = true → s.ctrl.inSend ∧ s.ctrl ≠ .tx ∧ s.opMd = ⟨s.params.resetCode, 0x00#8, 0x00#8⟩
  initSendNested : s.ctrl = .initSend → s.nested = true
  /-- set only as `SEND` ends (10_state.md R30) -/
  noTxFail : s.ctrl.inSend → s.opTxFail = false
  /-- the flush's read is due only in a flush (43_session.md R172) -/
  flushMark : s.flushRead = true → s.ctrl.flushing
  /-- the wait's start lies in the past (43_session.md R155, 00_scope.md R5) -/
  waitStarted : s.ctrl.inWait → s.waitStart ≤ s.env.now
  /-- a wait runs only with feedback on, and needs an acknowledgement for all commands but reset (43_session.md R151) -/
  waitPath : s.ctrl.inWait → s.cfgFeedback = true ∧ (s.waitAckreq = true ↔ s.opMd.cmd ≠ s.params.resetCode)
  /-- the command of the running wait or no-feedback path was sent (10_state.md R24) -/
  commandSent : s.ctrl.inWait ∨ s.ctrl.inDrain ∨ s.ctrl = .nofbSleep → s.lastSent = some s.opMd
  /-- 43_session.md R160, R161 -/
  pending : s.ctrl = .waitPending →
    s.params.waitPolicy = .untilIdle ∧ s.phase = .awaitingStart ∧ s.rxbIdx = s.rxbLen ∧ s.lastResp ≠ none
  /-- 43_session.md R166 -/
  nofbPath : (s.ctrl.inDrain → s.params.nofbPolicy = .drain) ∧ (s.ctrl = .nofbSleep → s.params.nofbPolicy = .fixedDelay)
  /-- no session exists (10_state.md R35) -/
  noSession : s.ctrl = .uninit →
    s.lastSent = none ∧ s.lastResp = none ∧ s.ackSeen = false ∧ s.phase = .awaitingStart ∧ s.result = none
  /-- the block never produces the host's own error (45_host_wrappers.md R207) -/
  ownResult : s.result ≠ some .badParameter

end Sys2Proof.Machine
end

