-- ==== Sys2Proof/Certificates/Slice0/Obligations.lean ====
section
/-! DEFINITION. The statements for the provers, from the numbered rules of spec/. What the host is told is the model's field
`hostReply` (log 10). -/

open Sys2Proof Sys2Proof.Machine

/-! ### Encodings -/

/-- Every well-formed instruction, with every operand at every value, comes back from its encoding (30_encoding.md). -/
def Obligations.EncodeThenDecodeIsIdentity : Prop :=
  ∀ i : Instr, i.wellFormed = true → decode (encode i) = .ok i

/-- Bytes that decode are the encoding of what they decode to, and that is well formed: no byte of a frame is dropped. -/
def Obligations.DecodedWireEncodesBack : Prop :=
  ∀ (l : List Byte) (i : Instr), decodeWire l = .ok i → i.wellFormed = true ∧ encode i = .wire l

/-- A request word that decodes is the encoding of what it decodes to, with the side arguments `INIT` takes. -/
def Obligations.DecodedRequestEncodesBack : Prop :=
  ∀ (w : Word32) (t d : Nat) (i : Instr), decodeRequest w t d = .ok i →
    (∃ ov fb, i = .init ov fb t d ∧ encode i = .host (.word w t d))
      ∨ (∃ cmd ph pl, i = .send cmd ph pl ∧ encode i = .host (.word w 0 0))

/-- A few words written out from 30_encoding.md R70, R76 and R80 (vectors of 95_test_vectors.md). -/
def Obligations.TabledWordsDecode : Prop :=
  decodeWire [0x7E#8, 0xFF#8, 0x06#8, 0x41#8, 0x00#8, 0x00#8, 0x00#8, 0xFE#8, 0xBA#8, 0xEF#8]
      = .ok (.ack ⟨0xFF#8, 0x06#8, 0x00#8, 0x00#8, 0x00#8, 0xFE#8, 0xBA#8⟩)
    ∧ decodeWire [0x7E#8, 0xFF#8, 0x06#8, 0x06#8, 0x01#8, 0x00#8, 0x14#8, 0xFE#8, 0xE0#8, 0xEF#8]
      = .ok (.setVolume ⟨0xFF#8, 0x06#8, 0x01#8, 0x00#8, 0x14#8, 0xFE#8, 0xE0#8⟩)
    ∧ decodeWire [0x7E#8, 0xFF#8, 0x06#8, 0x4A#8, 0x00#8, 0x00#8, 0x00#8, 0xFE#8, 0xB1#8, 0xEF#8]
      = .ok (.unknown 0x4A#8 ⟨0xFF#8, 0x06#8, 0x00#8, 0x00#8, 0x00#8, 0xFE#8, 0xB1#8⟩)
    ∧ decodeRequest 0x10000003#32 100 7 = .ok (.init true true 100 7)
    ∧ decodeRequest 0x20030BB7#32 0 0 = .ok (.send 0x03#8 0x0B#8 0xB7#8)
    ∧ decodeRequest 0x21060014#32 0 0 = .error .reservedBits
    ∧ decodeRequest 0x30000000#32 0 0 = .error .reservedOp

/-- 30_encoding.md R81: in `IDLE` or `UNINIT` a word is refused unless it is one of the `INIT` words `0x10000000..0x10000003`
or the `SEND` words `0x20000000..0x20FFFFFF`; and in `UNINIT` the `SEND` words are refused. -/
def Obligations.MalformedAndEarlyRequestsAreRefused : Prop :=
  ∀ (s : State) (w : Word32) (t d : Nat) (rest : List HostItem),
    s.params.admissible = true → s.resetNow = false → s.ctrl.taking → s.env.channel = .word w t d :: rest →
    ((¬ (0x10000000 ≤ w.toNat ∧ w.toNat ≤ 0x10000003) ∧ ¬ (0x20000000 ≤ w.toNat ∧ w.toNat ≤ 0x20FFFFFF) →
        ∃ e, step s = .refused (.badRequest e))
      ∧ (s.ctrl = .uninit → 0x20000000 ≤ w.toNat → w.toNat ≤ 0x20FFFFFF → step s = .refused .requestBeforeInit)
      ∧ (0x10000000 ≤ w.toNat → w.toNat ≤ 0x10000003 → ∃ u, step s = .next u ∧ u.ctrl = .initFlush1)
      ∧ (s.ctrl = .idle → 0x20000000 ≤ w.toNat → w.toNat ≤ 0x20FFFFFF → ∃ u, step s = .next u ∧ u.ctrl = .tx))

/-- 00_scope.md R3: which parameter sets are admissible, and that a machine with any other takes no step. -/
def Obligations.InadmissibleParametersAreRefused : Prop :=
  ∀ s : State,
    (s.params.admissible = true ↔
      Config.ackCode ∈ s.params.knownCodes ∧ Config.errorCode ∈ s.params.knownCodes
        ∧ s.params.resetCode ∈ s.params.knownCodes
        ∧ s.params.resetCode ≠ Config.ackCode ∧ s.params.resetCode ≠ Config.errorCode
        ∧ classify s.params 0x04#8 = .named .checksum ∧ 0 < s.params.pollInterval ∧ 1 ≤ s.params.rxBatchMax)
      ∧ (s.params.admissible = false → step s = .refused .inadmissibleParameters)

/-! ### Checksum and codec -/

/-- 40_checksum.md R104: without the correction the checksum is the one value that completes the sum to 0 modulo 65536; with
it, the sum is 2 for a zero command byte and 0 for every other. -/
def Obligations.ChecksumCompletesTheSum : Prop :=
  ∀ (p0 p1 p2 p3 p4 p5 : Byte),
    let sum := p0.toNat + p1.toNat + p2.toNat + p3.toNat + p4.toNat + p5.toNat
    (∀ c : Word16, c = cksum false p0 p1 p2 p3 p4 p5 ↔ (sum + c.toNat) % 65536 = 0)
      ∧ (p2 = 0x00#8 → (sum + (cksum true p0 p1 p2 p3 p4 p5).toNat) % 65536 = 2)
      ∧ (p2 ≠ 0x00#8 → (sum + (cksum true p0 p1 p2 p3 p4 p5).toNat) % 65536 = 0)

/-- 40_checksum.md R103: a frame the block encodes passes the block's own check, whatever the correction setting. -/
def Obligations.EncodedFramePassesTheCheck : Prop :=
  ∀ (corr : Bool) (md : MessageData) (fb : Bool), cksumCheck corr (encodeFrame corr md fb) = true

/-- 41_codec.md R116: the round trip of the codec, for a code in the catalogue and for one outside it. -/
def Obligations.CodecRoundTrip : Prop :=
  ∀ (p : Params) (cmd ph pl : Byte) (fb : Bool),
    let fbbyte : Byte := if fb then 0x01#8 else 0x00#8
    let out := decodeOutput p (encodeFrame p.cksumZeroCmdCorrection ⟨cmd, ph, pl⟩ fb)
    (cmd ∈ p.knownCodes →
        out = .decoded ⟨cmd, ph, pl⟩ fbbyte (cksum p.cksumZeroCmdCorrection 0xFF#8 0x06#8 cmd fbbyte ph pl) true)
      ∧ (cmd ∉ p.knownCodes → out = .unknown cmd)

/-- 30_encoding.md R77: the kind of a frame is one of four, decided by byte 3 alone, and `DECODE` calls a frame unknown
exactly when its kind is. -/
def Obligations.FrameKindByCommandByte : Prop :=
  ∀ (p : Params) (f : Frame), p.admissible = true →
    (frameKind p f.cmd = .ack ↔ f.cmd = Config.ackCode)
      ∧ (frameKind p f.cmd = .error ↔ f.cmd = Config.errorCode)
      ∧ (frameKind p f.cmd = .info ↔ f.cmd ∈ p.knownCodes ∧ f.cmd ≠ Config.ackCode ∧ f.cmd ≠ Config.errorCode)
      ∧ (frameKind p f.cmd = .unknown ↔ f.cmd ∉ p.knownCodes)
      ∧ (frameKind p f.cmd = .unknown ↔ decodeOutput p f = .unknown f.cmd)

/-- What `SEND` writes to the wire is the table row of its command (41_codec.md R110, R117; 30_encoding.md R76): the bytes
decode to an instruction with that code and the operands 0xFF, 0x06, the feedback byte, the parameter and the checksum. -/
def Obligations.SentFrameIsItsTableRow : Prop :=
  ∀ (corr : Bool) (cmd ph pl : Byte) (fb : Bool),
    let fbbyte : Byte := if fb then 0x01#8 else 0x00#8
    let c := cksum corr 0xFF#8 0x06#8 cmd fbbyte ph pl
    ∃ i o, decodeWire (encodeFrame corr ⟨cmd, ph, pl⟩ fb).bytes = .ok i ∧ i.frame? = some (cmd, o)
      ∧ o.version = 0xFF#8 ∧ o.length = 0x06#8 ∧ o.fb = fbbyte ∧ o.ph = ph ∧ o.pl = pl
      ∧ o.ckHi.toNat * 256 + o.ckLo.toNat = c.toNat

/-- 44_error_classifier.md R190, R191, R192: the classifier by its map, a byte inside the map never unknown, the default map's
table, and the kind and the detail byte of a `MODULE_ERROR` result; no other result, `BAD_CHECKSUM` among them, has a kind. -/
def Obligations.ClassifierFollowsItsMap : Prop :=
  (∀ (p : Params) (b : Byte),
      ((∀ f, (b, f) ∉ p.moduleErrorMap) → classify p b = .unknown)
        ∧ (∀ f, (b, f) ∈ p.moduleErrorMap → (∀ f', (b, f') ∈ p.moduleErrorMap → f' = f) → classify p b = .named f)
        ∧ ((∃ f, (b, f) ∈ p.moduleErrorMap) → classify p b ≠ .unknown)
        ∧ (Result.moduleError b).kind? p = some (classify p b)
        ∧ (Result.moduleError b).detail = b)
    ∧ (∀ (p : Params) (r : Result), (∀ b, r ≠ .moduleError b) → r.kind? p = none)
    ∧ (∀ b : Byte, classify Params.default b =
        if b = 0x01#8 then .named .busy else if b = 0x02#8 then .named .sleeping
        else if b = 0x03#8 then .named .serialReceiveError else if b = 0x04#8 then .named .checksum
        else if b = 0x05#8 then .named .trackOutOfRange else if b = 0x06#8 then .named .trackNotFound
        else if b = 0x07#8 then .named .insertionError else if b = 0x08#8 then .named .enterSleepFailed else .unknown)

/-! ### Scanner -/

/-- 42_scanner.md R139: bytes without a start marker are dropped one by one, and the frame after it completes. -/
def Obligations.ScannerDropsGarbageBeforeAFrame : Prop :=
  ∀ (g : List Byte) (old f : Frame), Config.startMark ∉ g → f.start = Config.startMark → f.stop = Config.endMark →
    scanAll .awaitingStart old (g ++ f.bytes)
      = (List.replicate g.length .drop ++ List.replicate 9 .none ++ [.complete], .awaitingStart, f)

/-- 42_scanner.md R141: a frame split at any point 1..9 gives the same events and the same frame, and after the first part
the phase names the split point. -/
def Obligations.ScannerReassemblesSplitFrames : Prop :=
  ∀ (old f : Frame) (k : Nat), f.start = Config.startMark → f.stop = Config.endMark → 1 ≤ k → k ≤ 9 →
    let a := scanAll .awaitingStart old (f.bytes.take k)
    let b := scanAll a.2.1 a.2.2 (f.bytes.drop k)
    a.2.1.code.toNat = k
      ∧ (a.1 ++ b.1, b.2) = scanAll .awaitingStart old f.bytes
      ∧ a.1 ++ b.1 = List.replicate 9 .none ++ [.complete] ∧ b.2 = (.awaitingStart, f)

/-- 42_scanner.md R134: any other byte in the end marker's place, a start marker too, discards the partial frame and is
itself consumed; the next byte is the first one tested as a start marker. -/
def Obligations.ScannerResynchronises : Prop :=
  ∀ (old f : Frame) (b next : Byte), f.start = Config.startMark → b ≠ Config.endMark →
    scanAll .awaitingStart old (f.bytes.take 9 ++ [b])
        = (List.replicate 9 .none ++ [.resync], .awaitingStart, { f with stop := old.stop })
      ∧ (scanAll .awaitingStart old (f.bytes.take 9 ++ [b, next])).2.1
          = (if next = Config.startMark then .acc1 else .awaitingStart)

/-- 42_scanner.md R140, 70_reset_and_hazards.md R257: a start marker in `AwaitingStart` fewer than 10 bytes before a frame,
with any bytes `g` between them, loses that frame. The ten bytes from the stray marker on are taken as one frame, whose end
marker is looked for at a byte `b` of the real frame: any other `b` discards them, and `END_MARK` there completes this false
frame. Nothing completes after it, and without another start marker the rest of the real frame is dropped. -/
def Obligations.FalseStartMarkerLosesTheFrame : Prop :=
  ∀ (old f : Frame) (g : List Byte) (b : Byte), g.length < 9 → f.start = Config.startMark → f.stop = Config.endMark →
    f.bytes[8 - g.length]? = some b →
    let stream := Config.startMark :: (g ++ f.bytes)
    let scanned := scanAll .awaitingStart old stream
    let falseEnd : ScanEvent := if b = Config.endMark then .complete else .resync
    scanned.1.take 10 = List.replicate 9 .none ++ [falseEnd]
      ∧ .complete ∉ scanned.1.drop 10
      ∧ (b = Config.endMark → (scanAll .awaitingStart old (stream.take 10)).2.2.bytes = stream.take 10)
      ∧ (Config.startMark ∉ f.bytes.drop (9 - g.length) →
          scanned.1.drop 10 = List.replicate (g.length + 1) .drop ∧ scanned.2.1 = .awaitingStart)

/-- 43_session.md R164: a byte that completes no frame leaves the session alone and scanning goes on.
That no time passes in such a step is the model's choice (log 3). -/
def Obligations.UneventfulBytesLeaveTheSession : Prop :=
  ∀ (s : State) (b : Byte), s.params.admissible = true → s.resetNow = false → s.ctrl.scanning →
    s.rxbIdx < s.rxbLen → s.rxb[s.rxbIdx]? = some b → s.scanEvent b ≠ .complete →
    ∃ t, step s = .next t ∧ SameConfig s t ∧ SameSession s t ∧ SameHost s t ∧ SameOperation s t
      ∧ t.rxb = s.rxb ∧ t.rxbLen = s.rxbLen ∧ t.rxbIdx = s.rxbIdx + 1
      ∧ t.env = { s.env with resets := s.env.resets.tail }
      ∧ (t.phase, t.fbuf) = (scan s.phase s.fbuf b).2
      ∧ (s.rxbIdx + 1 < s.rxbLen → t.ctrl = s.ctrl)
      ∧ (¬ s.rxbIdx + 1 < s.rxbLen → s.ctrl = .waitScan → t.ctrl = .waitPoll)
      ∧ (¬ s.rxbIdx + 1 < s.rxbLen → s.ctrl = .drainScan → t.ctrl = .drainPoll)

/-- 42_scanner.md R135: only four things return the scanner to `AwaitingStart`. -/
def Obligations.FourWaysBackToAwaitingStart : Prop :=
  ∀ s t : State, step s = .next t → s.phase ≠ .awaitingStart → t.phase = .awaitingStart →
    s.resetNow = true ∨ InitTaken s
      ∨ (s.ctrl.scanning ∧ s.phase = .awaitingEnd
          ∧ ∃ b, s.nextByte? = some b ∧ (s.scanEvent b = .complete ∨ s.scanEvent b = .resync))

/-! ### Who writes what, over every step -/

/-- 00_scope.md R4: the parameters never change, and the configuration changes only at `INIT` (or a block reset). -/
def Obligations.ConfigurationChangesOnlyAtInit : Prop :=
  ∀ s t : State, step s = .next t →
    t.params = s.params
      ∧ (s.resetNow = false → ¬ InitTaken s → t.cfgFeedback = s.cfgFeedback ∧ t.cfgTimeout = s.cfgTimeout)

/-- 10_state.md R24: `LAST_SENT` is written only by a write the transport accepted, with the command sent, or cleared by
`INIT`. -/
def Obligations.LastSentWrittenOnlyByAcceptedWrite : Prop :=
  ∀ s t : State, step s = .next t → s.resetNow = false → t.lastSent ≠ s.lastSent →
    (InitTaken s ∧ t.lastSent = none)
      ∨ (s.ctrl.writing ∧ s.writeAnswer = .ok ∧ t.lastSent = some s.opMd)

/-- 10_state.md R25: `LAST_RESP` is written only by the interpretation of a completed frame whose code is in the catalogue
and whose checksum matches, with that frame's message, or cleared by `INIT`. -/
def Obligations.LastRespWrittenOnlyByValidFrame : Prop :=
  ∀ s t : State, step s = .next t → s.resetNow = false → t.lastResp ≠ s.lastResp →
    (InitTaken s ∧ t.lastResp = none)
      ∨ (s.ctrl.scanning ∧ ∃ b, s.nextByte? = some b ∧ s.scanEvent b = .complete ∧ t.fbuf.cmd ∈ s.params.knownCodes
          ∧ cksumCheck s.params.cksumZeroCmdCorrection t.fbuf = true
          ∧ t.lastResp = some ⟨t.fbuf.cmd, t.fbuf.ph, t.fbuf.pl⟩)

/-- 10_state.md R26: `ACK_SEEN` is cleared by a successful write and by `INIT`, set by a valid acknowledgement frame, and
written by nothing else. -/
def Obligations.AckSeenWrittenByWriteAndAckOnly : Prop :=
  ∀ s t : State, step s = .next t → s.resetNow = false →
    (s.ackSeen = true → t.ackSeen = false → InitTaken s ∨ (s.ctrl.writing ∧ s.writeAnswer = .ok))
      ∧ (s.ackSeen = false → t.ackSeen = true →
          s.ctrl.scanning ∧ ∃ b, s.nextByte? = some b ∧ s.scanEvent b = .complete ∧ t.fbuf.cmd = Config.ackCode
            ∧ cksumCheck s.params.cksumZeroCmdCorrection t.fbuf = true)

/-- 10_state.md R31, 43_session.md R169, 60_exceptions.md R225: `RESULT` changes only in a step that ends an operation, and
such a step clears the batch, tells the host and returns to `IDLE`. -/
def Obligations.ResultWrittenOnlyAtTheEnd : Prop :=
  ∀ s t : State, step s = .next t → s.resetNow = false →
    (t.result ≠ s.result → s.busy = true ∧ t.ctrl = .idle)
      ∧ (s.busy = true → t.ctrl = .idle →
          ∃ r, t.result = some r ∧ t.env.hostReply = some r ∧ t.rxbLen = 0 ∧ t.rxbIdx = 0 ∧ SameConfig s t)

/-- 70_reset_and_hazards.md R252, R256: `UNINIT` is left only by `INIT`, and entered only by a block reset. -/
def Obligations.UninitLeftOnlyByInit : Prop :=
  ∀ s t : State, step s = .next t → s.resetNow = false →
    (s.ctrl = .uninit → t.ctrl ≠ .uninit → InitTaken s ∧ t.ctrl = .initFlush1)
      ∧ (t.ctrl = .uninit → s.ctrl = .uninit)

/-- 00_scope.md R7, 70_reset_and_hazards.md R255: a busy engine takes nothing from the host channel, which holds it. -/
def Obligations.BusyEngineTakesNoRequest : Prop :=
  ∀ s t : State, step s = .next t →
    (s.busy = true → t.env.channel = s.env.channel)
      ∧ (t.env.channel ≠ s.env.channel → s.ctrl.taking ∧ t.env.channel = s.env.channel.tail)

/-- 00_scope.md R5: time never goes back, and a sleep lasts at least as long as asked for. -/
def Obligations.TimeNeverGoesBack : Prop :=
  ∀ s t : State, step s = .next t →
    s.env.now ≤ t.env.now
      ∧ (s.resetNow = false → s.ctrl = .waitSleep → s.env.now + s.params.pollInterval ≤ t.env.now)
      ∧ (s.resetNow = false → s.ctrl = .nofbSleep → s.env.now + s.params.nofbDelay ≤ t.env.now)
      ∧ (s.resetNow = false → s.ctrl = .initSettle → ∀ d, s.opOverride = some d → s.env.now + d ≤ t.env.now)
      ∧ (s.resetNow = false → s.ctrl = .initSettle → s.opOverride = none →
          s.env.now + s.params.resetSettleDefault ≤ t.env.now)

/-- 20_memory.md R55, 70_reset_and_hazards.md R251, 93_implementation_defined.md U6: the wire gets the ten bytes of one frame
on a successful write, the first few of them (none or all too) on a failed one or one that a block reset abandons, and
nothing in any other step. That a write that has not returned has put no byte on the wire yet is the model's choice
(log 15). -/
def Obligations.WireGetsWholeFrames : Prop :=
  ∀ s t : State, step s = .next t →
    let frame := (encodeFrame s.params.cksumZeroCmdCorrection s.opMd s.cfgFeedback).bytes
    frame.length = 10
      ∧ (s.resetNow = false → s.ctrl.writing → s.writeAnswer = .ok → t.env.txStream = s.env.txStream ++ frame)
      ∧ (s.resetNow = false → s.ctrl.writing → ∀ e k, s.writeAnswer = .terr e k →
          ∃ part, part <+: frame ∧ t.env.txStream = s.env.txStream ++ part)
      ∧ (s.resetNow = true → s.ctrl.writing → ∃ part, part <+: frame ∧ t.env.txStream = s.env.txStream ++ part)
      ∧ (t.env.txStream ≠ s.env.txStream → s.ctrl.writing ∧ (s.resetNow = true ∨ s.writeAnswer ≠ .suspended))

/-- 60_exceptions.md R222: what an operation can return, by the path it ends on. That in `TX` nothing is nested is the
model's choice (log 13). -/
def Obligations.ResultsByPath : Prop :=
  ∀ s t : State, step s = .next t → s.resetNow = false → s.Inv → s.busy = true → t.ctrl = .idle →
    (s.nested = true ∨ s.ctrl = .initFlush1 ∨ s.ctrl = .initSettle ∨ s.ctrl = .initFlush2 →
        t.result = some .ok ∨ ∃ e, t.result = some (.init e))
      ∧ (s.ctrl = .tx → ∃ e, t.result = some (.transport e))
      ∧ (s.ctrl = .nofbSleep → t.result = some .ok)
      ∧ (s.ctrl.inDrain →
          t.result = some .ok ∨ (∃ e, t.result = some (.transport e)) ∨ (∃ c, t.result = some (.badChecksum c))
            ∨ (∃ c, t.result = some (.unknownCommand c)) ∨ ∃ b, t.result = some (.moduleError b))
      ∧ (s.ctrl.inWait →
          t.result = some .ok ∨ (∃ e, t.result = some (.transport e)) ∨ (∃ c, t.result = some (.badChecksum c))
            ∨ (∃ c, t.result = some (.unknownCommand c)) ∨ (∃ b, t.result = some (.moduleError b))
            ∨ t.result = some .failedAck ∨ t.result = some .userTimeout)

/-- 43_session.md R162: `FAILED_ACK` is raised only by natural termination under `UNTIL_IDLE`, with feedback on, for a command
other than reset, when no acknowledgement was seen; never on the no-feedback path. -/
def Obligations.FailedAckOnlyAtNaturalTermination : Prop :=
  ∀ s t : State, step s = .next t → s.resetNow = false → s.Inv → s.busy = true → t.ctrl = .idle →
    t.result = some .failedAck →
      s.ctrl = .waitPending ∧ s.pollAnswer = .notready ∧ s.params.waitPolicy = .untilIdle ∧ s.cfgFeedback = true
        ∧ s.opMd.cmd ≠ s.params.resetCode ∧ s.waitAckreq = true ∧ s.ackSeen = false

/-! ### Host requests -/

/-- `SEND` and `send_raw` are accepted in `IDLE` (43_session.md R149, 45_host_wrappers.md R200): the frame is offered to the
transport next, and nothing else changes. The step in which `OP_TXFAIL` is cleared is the model's choice (log 1). -/
def Obligations.SendIsAcceptedInIdle : Prop :=
  ∀ (s : State) (cmd ph pl : Byte), s.ctrl = .idle →
    exec (.send cmd ph pl) s
        = .next { s with ctrl := .tx, opTxFail := false, opMd := ⟨cmd, ph, pl⟩, nested := false }
      ∧ exec (.callSendRaw cmd ph pl) s = exec (.send cmd ph pl) s
      ∧ ∃ t, exec (.callSendRaw cmd ph pl) s = .next t ∧ t.ctrl = .tx ∧ t.opMd = ⟨cmd, ph, pl⟩

/-- `INIT` is accepted in `UNINIT` and in `IDLE` (43_session.md R149, R170): the configuration is written, the session, the
scanner and the batch are cleared, the first flush comes next, and nothing else changes. That this happens in the accepting
step is the model's choice (log 1). -/
def Obligations.InitIsAccepted : Prop :=
  ∀ (s : State) (ov fb : Bool) (timeout delay : Nat), s.ctrl.taking →
    exec (.init ov fb timeout delay) s
      = .next
          { s with
              ctrl := .initFlush1
              cfgFeedback := fb
              cfgTimeout := timeout
              lastSent := none
              lastResp := none
              ackSeen := false
              phase := .awaitingStart
              rxbLen := 0
              rxbIdx := 0
              nested := false
              opOverride := if ov then some delay else none
              flushRead := false }

/-- 30_encoding.md R83: in `IDLE` each wrapper, its argument in range, starts the `SEND` it expands to. -/
def Obligations.WrappersExpandToSend : Prop :=
  ∀ (s : State), s.ctrl = .idle →
    let sends := fun (md : MessageData) =>
      (Host.Outcome.next { s with ctrl := .tx, opTxFail := false, opMd := md, nested := false } :
        Host.Outcome State Fault Refusal)
    (∀ md : MessageData, exec (.callSendRaw md.cmd md.ph md.pl) s = sends md)
      ∧ exec .callReset s = sends ⟨s.params.resetCode, 0x00#8, 0x00#8⟩
      ∧ (∀ v : Byte, v.toNat ≤ 30 → exec (.callSetVolume v) s = sends ⟨s.params.volumeCode, 0x00#8, v⟩)
      ∧ (∀ n : Word16, n.toNat ≤ 2999 → ∀ h l : Byte, n.toNat = h.toNat * 256 + l.toNat →
          exec (.callPlayTrack n) s = sends ⟨s.params.trackCode, h, l⟩)
      ∧ (∀ e : Byte, exec (.callSetEqualizer e) s = sends ⟨s.params.eqCode, 0x00#8, e⟩)
      ∧ (∀ x : Byte, exec (.callSetPlaybackSource x) s = sends ⟨s.params.sourceCode, 0x00#8, x⟩)
      ∧ (∀ b : Bool, exec (.callSetLoopAll b) s
            = sends ⟨s.params.loopallCode, 0x00#8, if b then 0x01#8 else 0x00#8⟩)
      ∧ (∀ v : Byte, 30 < v.toNat → ∃ t, exec (.callSetVolume v) s = .next t ∧ t.env.hostReply = some .badParameter
            ∧ t.ctrl = .idle)
      ∧ (∀ n : Word16, 2999 < n.toNat → ∃ t, exec (.callPlayTrack n) s = .next t ∧ t.env.hostReply = some .badParameter
            ∧ t.ctrl = .idle)

/-- 45_host_wrappers.md R207: an argument out of range gives `BAD_PARAMETER` to the caller in every state of the block, and
nothing but that reply changes: no register, not even `RESULT`, and no byte on the wire. -/
def Obligations.BadParameterTouchesNothing : Prop :=
  ∀ s : State,
    (∀ v : Byte, 30 < v.toNat →
        exec (.callSetVolume v) s = .next { s with env := { s.env with hostReply := some .badParameter } })
      ∧ (∀ n : Word16, 2999 < n.toNat →
        exec (.callPlayTrack n) s = .next { s with env := { s.env with hostReply := some .badParameter } })

/-- 45_host_wrappers.md R208: before `INIT` every wrapper is refused, but for the argument check, which runs first. -/
def Obligations.WrappersBeforeInitAreRefused : Prop :=
  ∀ s : State, s.ctrl = .uninit →
    let refusedHere := (Host.Outcome.refused Refusal.requestBeforeInit : Host.Outcome State Fault Refusal)
    let badParameter :=
      (Host.Outcome.next { s with env := { s.env with hostReply := some .badParameter } } :
        Host.Outcome State Fault Refusal)
    (∀ cmd ph pl : Byte, exec (.callSendRaw cmd ph pl) s = refusedHere)
      ∧ exec .callReset s = refusedHere
      ∧ (∀ v : Byte, exec (.callSetVolume v) s = if v.toNat ≤ 30 then refusedHere else badParameter)
      ∧ (∀ n : Word16, exec (.callPlayTrack n) s = if n.toNat ≤ 2999 then refusedHere else badParameter)
      ∧ (∀ e : Byte, exec (.callSetEqualizer e) s = refusedHere)
      ∧ (∀ x : Byte, exec (.callSetPlaybackSource x) s = refusedHere)
      ∧ (∀ b : Bool, exec (.callSetLoopAll b) s = refusedHere)

/-- 60_exceptions.md R223, 70_reset_and_hazards.md R252: with nothing offered, an engine at rest does nothing; it reads no
byte of the transport. That no time passes here is the model's choice (log 3). -/
def Obligations.EngineAtRestWaits : Prop :=
  ∀ s : State, s.params.admissible = true → s.resetNow = false → s.ctrl.taking → s.env.channel = [] →
    step s = .next { s with env := { s.env with resets := s.env.resets.tail } }

/-! ### The write -/

/-- 43_session.md R150, R151: a successful write records the command, clears `ACK_SEEN` and takes one of the paths of R151;
what it leaves unchanged is listed. That `WAIT_START` is read in this step is the model's choice (log 1). -/
def Obligations.SuccessfulWriteTakesItsPath : Prop :=
  ∀ s : State, s.params.admissible = true → s.resetNow = false → s.ctrl.writing → s.writeAnswer = .ok →
    let waits (t : State) (req : Bool) : Prop := t.ctrl = .waitPoll ∧ t.waitAckreq = req ∧ t.waitStart = t.env.now
    let drainsOrSleeps (t : State) : Prop :=
      (s.params.nofbPolicy = .drain → t.ctrl = .drainPoll) ∧ (s.params.nofbPolicy = .fixedDelay → t.ctrl = .nofbSleep)
    ∃ t, step s = .next t
      ∧ t.lastSent = some s.opMd ∧ t.ackSeen = false
      ∧ t.env.txStream = s.env.txStream ++ (encodeFrame s.params.cksumZeroCmdCorrection s.opMd s.cfgFeedback).bytes
      ∧ (s.opMd.cmd ≠ s.params.resetCode → s.cfgFeedback = true → waits t true)
      ∧ (s.cfgFeedback = false → drainsOrSleeps t)
      ∧ (s.opMd.cmd = s.params.resetCode → s.cfgFeedback = true → s.params.resetWaits = true → waits t false)
      ∧ (s.opMd.cmd = s.params.resetCode → s.cfgFeedback = true → s.params.resetWaits = false → drainsOrSleeps t)
      ∧ SameConfig s t ∧ t.lastResp = s.lastResp ∧ SameScanner s t ∧ SameBatch s t ∧ SameHost s t
      ∧ t.opTxFail = s.opTxFail ∧ t.opMd = s.opMd ∧ t.nested = s.nested ∧ t.opOverride = s.opOverride
      ∧ s.env.now ≤ t.env.now ∧ WriteTaken s t

/-- 43_session.md R163: a transport error at the write, at any poll or at any read of a host-issued `SEND` ends it with that
error; `LAST_SENT`, `LAST_RESP`, `ACK_SEEN`, the configuration and the scanner stay. -/
def Obligations.TransportErrorEndsSend : Prop :=
  ∀ (s : State) (e : Token), s.params.admissible = true → s.resetNow = false → s.nested = false →
    (s.ctrl = .tx ∧ (∃ k, s.writeAnswer = .terr e k))
        ∨ ((s.ctrl = .waitPoll ∨ s.ctrl = .waitPending ∨ s.ctrl = .drainPoll) ∧ s.pollAnswer = .terr e)
        ∨ ((s.ctrl = .waitRead ∨ s.ctrl = .drainRead) ∧ s.readAnswer = .terr e) →
    ∃ t, step s = .next t ∧ t.ctrl = .idle ∧ t.result = some (.transport e) ∧ t.env.hostReply = some (.transport e)
      ∧ t.rxbLen = 0 ∧ t.rxbIdx = 0 ∧ t.rxb = s.rxb
      ∧ SameConfig s t ∧ SameSession s t ∧ SameScanner s t ∧ t.env.channel = s.env.channel
      ∧ (s.ctrl = .tx → t.opTxFail = true ∧ WriteTaken s t)
      ∧ (s.ctrl = .waitPoll ∨ s.ctrl = .waitPending ∨ s.ctrl = .drainPoll → PollTaken s t)
      ∧ (s.ctrl = .waitRead ∨ s.ctrl = .drainRead → ReadTaken s t)

/-- 43_session.md R171: inside `INIT` a `SEND` step writes no result and stays nested, or returns to `INIT`'s settle sleep
with its result dropped, or, when the write failed, ends `INIT` with `INIT(e)`. A failed write always ends `INIT` so, and a
transport error of a later poll or read (R163) always returns to the settle sleep. That the write stands in `INIT_SEND` is
the model's choice (log 13). -/
def Obligations.NestedSendReturnsToInit : Prop :=
  ∀ s : State, s.resetNow = false → s.Inv → s.nested = true →
    ∃ t, step s = .next t
      ∧ ((t.nested = true ∧ SameHost s t ∧ t.ctrl.inSend)
        ∨ (t.nested = false ∧ t.ctrl = .initSettle ∧ SameHost s t ∧ t.opTxFail = false)
        ∨ (∃ e k, s.ctrl = .initSend ∧ s.writeAnswer = .terr e k ∧ t.nested = false ∧ t.ctrl = .idle
            ∧ t.result = some (.init e) ∧ t.opTxFail = true ∧ t.lastSent = s.lastSent))
      ∧ SameConfig s t ∧ t.opMd = s.opMd ∧ t.opOverride = s.opOverride ∧ t.env.channel = s.env.channel
      ∧ (∀ e k, s.ctrl = .initSend → s.writeAnswer = .terr e k →
          t.ctrl = .idle ∧ t.nested = false ∧ t.opTxFail = true
            ∧ t.result = some (.init e) ∧ t.env.hostReply = some (.init e)
            ∧ t.rxbLen = 0 ∧ t.rxbIdx = 0 ∧ t.rxb = s.rxb ∧ SameSession s t ∧ SameScanner s t ∧ WriteTaken s t)
      ∧ (∀ e, s.ctrl = .waitPoll ∨ s.ctrl = .waitPending ∨ s.ctrl = .drainPoll → s.pollAnswer = .terr e →
          t.ctrl = .initSettle ∧ t.nested = false ∧ SameHost s t ∧ SameSession s t ∧ SameScanner s t ∧ t.rxb = s.rxb
            ∧ PollTaken s t)
      ∧ (∀ e, s.ctrl = .waitRead ∨ s.ctrl = .drainRead → s.readAnswer = .terr e →
          t.ctrl = .initSettle ∧ t.nested = false ∧ SameHost s t ∧ SameSession s t ∧ SameScanner s t ∧ t.rxb = s.rxb
            ∧ ReadTaken s t)

/-! ### The wait -/

/-- 43_session.md R157, R165: at a poll point the timeout is checked on `notready` (and with `TIMEOUT_CHECK_ALWAYS` on
`ready`), against the time of this step; where the operation goes on its operands stay; the sleep after a `notready` poll
keeps everything but the time and goes back to the poll. -/
def Obligations.TimeoutCheckedAtPollPoint : Prop :=
  (∀ s : State, s.params.admissible = true → s.resetNow = false → s.ctrl = .waitPoll → s.opTxFail = false →
    (∀ e, s.pollAnswer ≠ .terr e) →
    let timesOut (t : State) : Prop :=
      (s.nested = false → t.ctrl = .idle ∧ t.result = some .userTimeout ∧ t.env.hostReply = some .userTimeout)
        ∧ (s.nested = true → t.ctrl = .initSettle ∧ t.nested = false ∧ SameHost s t)
    ∃ t now, step s = .next t ∧ t.env.now = now ∧ s.env.now ≤ now
      ∧ (s.pollAnswer = .notready → s.cfgTimeout ≤ now - s.waitStart → timesOut t)
      ∧ (s.pollAnswer = .notready → ¬ s.cfgTimeout ≤ now - s.waitStart → t.ctrl = .waitSleep)
      ∧ (s.pollAnswer = .ready → s.params.timeoutCheckAlways = false → t.ctrl = .waitRead)
      ∧ (s.pollAnswer = .ready → s.params.timeoutCheckAlways = true → ¬ s.cfgTimeout ≤ now - s.waitStart →
          t.ctrl = .waitRead)
      ∧ (s.pollAnswer = .ready → s.params.timeoutCheckAlways = true → s.cfgTimeout ≤ now - s.waitStart → timesOut t)
      ∧ SameConfig s t ∧ SameSession s t ∧ SameScanner s t ∧ t.rxb = s.rxb ∧ t.waitStart = s.waitStart
      ∧ t.opOverride = s.opOverride ∧ t.env.channel = s.env.channel ∧ PollTaken s t
      ∧ (t.ctrl = .waitSleep ∨ t.ctrl = .waitRead → SameOperation s t ∧ SameBatch s t ∧ SameHost s t))
    ∧ ∀ s : State, s.params.admissible = true → s.resetNow = false → s.ctrl = .waitSleep →
      ∃ t late, step s = .next t ∧ t.ctrl = .waitPoll ∧ t.env.now = s.env.now + s.params.pollInterval + late
        ∧ SameConfig s t ∧ SameSession s t ∧ SameScanner s t ∧ SameBatch s t ∧ SameOperation s t ∧ SameHost s t
        ∧ SameTransport s t ∧ t.env.txStream = s.env.txStream

/-- 70_reset_and_hazards.md R264: a transport that stays silent ends the wait with `USER_TIMEOUT`, whatever the command and
however late its sleeps return: within the polls that cover the configured time at one poll interval each. -/
def Obligations.SilenceEndsInUserTimeout : Prop :=
  ∀ (n : Nat) (s : State) (later : List PollAnswer),
    s.params.admissible = true → s.env.resets = [] → s.nested = false → s.ctrl = .waitPoll →
    s.env.polls = List.replicate (n + 1) .notready ++ later →
    s.waitStart ≤ s.env.now → s.cfgTimeout ≤ s.env.now - s.waitStart + n * s.params.pollInterval →
    ∃ k t, k ≤ 2 * n + 1 ∧ Sys2Proof.core.run k s = .next t ∧ t.ctrl = .idle ∧ t.result = some .userTimeout
      ∧ s.cfgTimeout ≤ t.env.now - s.waitStart ∧ SameSession s t ∧ SameScanner s t ∧ t.env.txStream = s.env.txStream

/-- 20_memory.md R56, 10_state.md R29, 43_session.md R156, R167: a read loads at most `RX_BATCH_MAX` bytes as the new batch;
an empty batch goes back to the poll, any other is scanned. Its bytes are gone from the transport, whose next answer comes
next; that of a longer listed answer the first `RX_BATCH_MAX` bytes come back and the rest stays is the model's choice (log 4).
That `now` stays is the model's choice (log 3). -/
def Obligations.ReadLoadsTheBatch : Prop :=
  ∀ (s : State) (l : List Byte), s.params.admissible = true → s.resetNow = false →
    (s.ctrl = .waitRead ∨ s.ctrl = .drainRead) → s.readAnswer = .batch l →
    l.length ≤ s.params.rxBatchMax
      ∧ ∃ t, step s = .next t ∧ t.rxbLen = l.length ∧ t.rxbIdx = 0
        ∧ t.rxb = l ++ s.rxb.drop l.length
        ∧ (l ≠ [] → t.ctrl = if s.ctrl = .waitRead then .waitScan else .drainScan)
        ∧ (l = [] → t.ctrl = if s.ctrl = .waitRead then .waitPoll else .drainPoll)
        ∧ SameConfig s t ∧ SameSession s t ∧ SameScanner s t ∧ SameOperation s t ∧ SameHost s t
        ∧ t.env.now = s.env.now ∧ t.env.txStream = s.env.txStream ∧ ReadTaken s t
        ∧ (∀ rest, s.env.reads = .batch l :: rest → t.env.reads = rest)
        ∧ (∀ m rest, s.env.reads = .batch m :: rest → s.params.rxBatchMax < m.length →
            l = m.take s.params.rxBatchMax ∧ t.env.reads = .batch (m.drop s.params.rxBatchMax) :: rest)

/-- 43_session.md R161, 42_scanner.md R137: when the batch is exhausted after a frame, a ready poll reads again at once and a
poll that is not ready ends the wait with the acknowledgement check; neither looks at the time. That `now` stays is the
model's choice (log 3), and so is that a nested `SEND` keeps `RXB_LEN` and `RXB_IDX` into `INIT_SETTLE` (`sendEnded`, log 13). -/
def Obligations.NaturalTerminationChecksTheAck : Prop :=
  ∀ s : State, s.params.admissible = true → s.resetNow = false → s.ctrl = .waitPending → s.opTxFail = false →
    (s.pollAnswer = .notready →
      ∃ u, SameConfig s u ∧ SameSession s u ∧ SameScanner s u ∧ SameBatch s u ∧ SameOperation s u ∧ SameHost s u
        ∧ u.env.now = s.env.now ∧ PollTaken s u
        ∧ (s.waitAckreq = true → s.ackSeen = false → step s = .next (sendEnded u .failedAck))
        ∧ (s.waitAckreq = false ∨ s.ackSeen = true → step s = .next (sendEnded u .ok)))
      ∧ (s.pollAnswer = .ready →
        ∃ t, step s = .next t ∧ t.ctrl = .waitRead ∧ SameConfig s t ∧ SameSession s t ∧ SameScanner s t ∧ SameBatch s t
          ∧ SameOperation s t ∧ SameHost s t ∧ t.env.now = s.env.now ∧ PollTaken s t)

/-! ### Received frames: every row of the wire table, executed where the scanner completes it -/

/-- 43_session.md R159, 41_codec.md R112, R115: a frame whose code is outside `KNOWN_CODES` ends the operation with
`UNKNOWN_COMMAND`, whatever its checksum, in the wait and in the drain; nothing else changes. For each of the 48 frame rows. That a
nested `SEND` keeps `RXB_LEN` and `RXB_IDX` into `INIT_SETTLE` (`sendEnded`) is the model's choice (log 13). -/
def Obligations.UnknownCodeEndsTheOperation : Prop :=
  ∀ (i : Instr) (c : Byte) (o : FrameOps) (s : State), i.frame? = some (c, o) → s.ctrl.scanning → s.opTxFail = false →
    c ∉ s.params.knownCodes → exec i s = .next (sendEnded s (.unknownCommand c))

/-- 43_session.md R159: a frame with a known code and a checksum that does not match ends the operation with `BAD_CHECKSUM`;
nothing else changes, neither `LAST_RESP` nor `ACK_SEEN`. For each of the 48 frame rows. That a
nested `SEND` keeps `RXB_LEN` and `RXB_IDX` into `INIT_SETTLE` (`sendEnded`) is the model's choice (log 13). -/
def Obligations.BadChecksumEndsTheOperation : Prop :=
  ∀ (i : Instr) (c : Byte) (o : FrameOps) (s : State), i.frame? = some (c, o) → s.ctrl.scanning → s.opTxFail = false →
    c ∈ s.params.knownCodes → ¬ ChecksumMatches s.params c o → exec i s = .next (sendEnded s (.badChecksum c))

/-- 43_session.md R158: a valid error notification ends the operation with `MODULE_ERROR` of its fault byte, in the wait and
in the drain, under every policy and even after an acknowledgement; it is kept in `LAST_RESP`. Row `ERROR`. That a
nested `SEND` keeps `RXB_LEN` and `RXB_IDX` into `INIT_SETTLE` (`sendEnded`) is the model's choice (log 13). -/
def Obligations.ErrorNotificationEndsTheOperation : Prop :=
  ∀ (o : FrameOps) (s : State), s.ctrl.scanning → s.opTxFail = false → s.params.admissible = true →
    ChecksumMatches s.params 0x40#8 o →
    exec (.error o) s = .next (sendEnded { s with lastResp := some ⟨0x40#8, o.ph, o.pl⟩ } (.moduleError o.pl))

/-- 43_session.md R158, R160, R167: any other valid frame is kept in `LAST_RESP`, an `ACK_CODE` frame sets `ACK_SEEN`, and
the wait policy, or the drain, goes on from there; nothing else changes. For each frame row but `ERROR`. That a
nested `SEND` keeps `RXB_LEN` and `RXB_IDX` into `INIT_SETTLE` (`sendEnded`) is the model's choice (log 13). -/
def Obligations.ValidFrameIsInterpreted : Prop :=
  ∀ (i : Instr) (c : Byte) (o : FrameOps) (s : State), i.frame? = some (c, o) → s.opTxFail = false →
    c ∈ s.params.knownCodes → ChecksumMatches s.params c o → c ≠ Config.errorCode →
    let u := { s with lastResp := some ⟨c, o.ph, o.pl⟩, ackSeen := if c = Config.ackCode then true else s.ackSeen }
    (s.ctrl = .drainScan → exec i s = .next (scansOn u))
      ∧ (s.ctrl = .waitScan → s.params.waitPolicy = .anyFrame → exec i s = .next (sendEnded u .ok))
      ∧ (s.ctrl = .waitScan → s.params.waitPolicy = .strictAck → u.ackSeen = true ∨ s.waitAckreq = false →
          exec i s = .next (sendEnded u .ok))
      ∧ (s.ctrl = .waitScan → s.params.waitPolicy = .strictAck → u.ackSeen = false → s.waitAckreq = true →
          exec i s = .next (scansOn u))
      ∧ (s.ctrl = .waitScan → s.params.waitPolicy = .untilIdle → s.rxbIdx < s.rxbLen → exec i s = .next u)
      ∧ (s.ctrl = .waitScan → s.params.waitPolicy = .untilIdle → ¬ s.rxbIdx < s.rxbLen →
          exec i s = .next { u with ctrl := .waitPending })

/-- 60_exceptions.md R223, 42_scanner.md R136: outside `WAIT_SCAN` and `DRAIN_SCAN` the engine looks at no frame. That `exec`
says so with an unchanged state is the model's choice (log 12). -/
def Obligations.FramesAreReadOnlyWhenScanning : Prop :=
  ∀ (i : Instr) (c : Byte) (o : FrameOps) (s : State), i.frame? = some (c, o) → ¬ s.ctrl.scanning → exec i s = .next s

/-! ### The no-feedback path and the rest of INIT -/

/-- 43_session.md R166 to R168: the fixed delay sleeps and ends with `OK`, asking the transport nothing; the drain ends with
`OK` when a poll is not ready and reads when it is. That a
nested `SEND` keeps `RXB_LEN` and `RXB_IDX` into `INIT_SETTLE` (`sendEnded`) is the model's choice (log 13). -/
def Obligations.NoFeedbackPathEndsWithOk : Prop :=
  ∀ s : State, s.params.admissible = true → s.resetNow = false → s.opTxFail = false →
    (s.ctrl = .nofbSleep →
        ∃ u, step s = .next (sendEnded u .ok) ∧ s.env.now + s.params.nofbDelay ≤ u.env.now
          ∧ SameTransport s u
          ∧ SameConfig s u ∧ SameSession s u ∧ SameScanner s u ∧ SameBatch s u ∧ SameOperation s u ∧ SameHost s u)
      ∧ (s.ctrl = .drainPoll → s.pollAnswer = .notready →
        ∃ u, step s = .next (sendEnded u .ok) ∧ PollTaken s u
          ∧ SameConfig s u ∧ SameSession s u ∧ SameScanner s u ∧ SameBatch s u ∧ SameOperation s u ∧ SameHost s u)
      ∧ (s.ctrl = .drainPoll → s.pollAnswer = .ready →
        ∃ t, step s = .next t ∧ t.ctrl = .drainRead ∧ PollTaken s t
          ∧ SameConfig s t ∧ SameSession s t ∧ SameScanner s t ∧ SameBatch s t ∧ SameOperation s t ∧ SameHost s t)

/-- 43_session.md R172, R170: a flush polls, reads once only if the poll is ready, drops the bytes and every error (the
bytes read are gone from the transport, a poll takes none), and touches neither the session, the scanner nor the batch nor
the override of `INIT`; then the reset command follows, or `INIT` ends with `OK`.
The model's choices among the clauses: the nested write stands in `INIT_SEND` (log 13), `flushRead` holds the read due
(log 14), and a read that has not returned leaves the engine where it is (log 5, DEDUCED). -/
def Obligations.FlushDropsWhatItReads : Prop :=
  ∀ s : State, s.params.admissible = true → s.resetNow = false → s.ctrl.flushing → s.nested = false →
    ∃ t, step s = .next t ∧ SameConfig s t ∧ SameSession s t ∧ SameScanner s t ∧ t.rxb = s.rxb
      ∧ t.opOverride = s.opOverride ∧ t.env.channel = s.env.channel
      ∧ (t.ctrl = s.ctrl → t.nested = false ∧ SameBatch s t ∧ SameHost s t)
      ∧ (s.flushRead = false → PollTaken s t) ∧ (s.flushRead = true → ReadTaken s t)
      ∧ (∀ l rest, s.flushRead = true → s.env.reads = .batch l :: rest → l.length ≤ s.params.rxBatchMax →
          t.env.reads = rest)
      ∧ (s.flushRead = false → s.pollAnswer = .ready → t.ctrl = s.ctrl ∧ t.flushRead = true)
      ∧ (s.flushRead = true → s.readAnswer = .suspended → t.ctrl = s.ctrl ∧ t.flushRead = true)
      ∧ ((s.flushRead = false ∧ s.pollAnswer ≠ .ready) ∨ (s.flushRead = true ∧ s.readAnswer ≠ .suspended) →
          t.flushRead = false
            ∧ (s.ctrl = .initFlush1 → t.ctrl = .initSend ∧ t.nested = true
                ∧ t.opMd = ⟨s.params.resetCode, 0x00#8, 0x00#8⟩ ∧ SameHost s t ∧ SameBatch s t)
            ∧ (s.ctrl = .initFlush2 → t.ctrl = .idle ∧ t.result = some .ok ∧ t.env.hostReply = some .ok
                ∧ t.rxbLen = 0 ∧ t.rxbIdx = 0))

/-- 43_session.md R173: the settle sleep lasts the override, when there is one, or the default; then the second flush comes (R170).
That its read is not due yet is said of the model's own field `flushRead` (log 14). -/
def Obligations.SettleSleepLastsItsTime : Prop :=
  ∀ s : State, s.params.admissible = true → s.resetNow = false → s.ctrl = .initSettle →
    ∃ t late, step s = .next t ∧ t.ctrl = .initFlush2 ∧ t.flushRead = false
      ∧ (∀ d, s.opOverride = some d → t.env.now = s.env.now + d + late)
      ∧ (s.opOverride = none → t.env.now = s.env.now + s.params.resetSettleDefault + late)
      ∧ SameConfig s t ∧ SameSession s t ∧ SameScanner s t ∧ SameBatch s t ∧ SameHost s t ∧ SameTransport s t
      ∧ t.nested = s.nested ∧ t.opOverride = s.opOverride

/-- 43_session.md R150, R158, R161: with feedback on and the default policy, a command the module answers with the frame
`7E FF 06 41 00 00 00 FE BA EF` and nothing more ends with `OK`, in one accepting step, one write, one poll, one read, ten
bytes and one last poll. For every command but reset and every state at rest with no partial frame. -/
def Obligations.AcknowledgedSendEndsWithOk : Prop :=
  ∀ (s : State) (cmd ph pl : Byte) (rest : List HostItem) (polls : List PollAnswer) (reads : List ReadAnswer)
    (writes : List WriteAnswer),
    s.params.admissible = true → s.env.resets = [] → s.ctrl = .idle → s.nested = false →
    s.cfgFeedback = true → s.params.waitPolicy = .untilIdle → s.params.timeoutCheckAlways = false →
    10 ≤ s.params.rxBatchMax → s.phase = .awaitingStart → cmd ≠ s.params.resetCode →
    s.env.channel = .word (encodeSendWord cmd ph pl) 0 0 :: rest →
    s.env.writes = .ok :: writes → s.env.polls = .ready :: .notready :: polls →
    s.env.reads
      = .batch [0x7E#8, 0xFF#8, 0x06#8, 0x41#8, 0x00#8, 0x00#8, 0x00#8, 0xFE#8, 0xBA#8, 0xEF#8] :: reads →
    ∃ t, Sys2Proof.core.run 15 s = .next t ∧ t.ctrl = .idle ∧ t.result = some .ok
      ∧ t.lastSent = some ⟨cmd, ph, pl⟩ ∧ t.lastResp = some ⟨0x41#8, 0x00#8, 0x00#8⟩ ∧ t.ackSeen = true
      ∧ t.phase = .awaitingStart ∧ t.env.channel = rest
      ∧ t.env.polls = polls ∧ t.env.reads = reads ∧ t.env.writes = writes
      ∧ t.env.txStream = s.env.txStream ++ (encodeFrame s.params.cksumZeroCmdCorrection ⟨cmd, ph, pl⟩ true).bytes

/-! ### Reset, steps and the invariant -/

/-- 10_state.md R35: what a block reset leaves, where the spec gives a value. The model's
choices: bit 3 of the view word `STATUS` is the value of `CFG_FEEDBACK` (log 9), and the whole view word `RESULT` is 0 while
it is not valid (log 24). -/
def Obligations.ResetGivesTheEmptySession : Prop :=
  State.reset.ctrl = .uninit ∧ State.reset.lastSent = none ∧ State.reset.lastResp = none ∧ State.reset.ackSeen = false
    ∧ State.reset.phase = .awaitingStart ∧ State.reset.rxbLen = 0 ∧ State.reset.rxbIdx = 0 ∧ State.reset.result = none
    ∧ State.reset.statusWord = 0#32 ∧ State.reset.resultWord = 0#32

/-- 70_reset_and_hazards.md R250, R251: the reset input takes every state, a busy one too, to the empty session; an operation
in flight leaves no result, the host gets no reply for it, and the transport keeps what it holds; a write in progress
delivers some first bytes of its frame, in every other state nothing reaches the wire. The model's choices: the reset is
looked at before anything else of the step (log 7), and the return mark is cleared (log 9); that a write counts as started in
`TX` and `INIT_SEND` is its inference (log 15). -/
def Obligations.BlockResetAbandonsTheOperation : Prop :=
  ∀ s : State, s.params.admissible = true → s.resetNow = true →
    ∃ t, step s = .next t ∧ t.ctrl = .uninit ∧ t.lastSent = none ∧ t.lastResp = none ∧ t.ackSeen = false
      ∧ t.phase = .awaitingStart ∧ t.rxbLen = 0 ∧ t.rxbIdx = 0 ∧ t.result = none ∧ t.nested = false
      ∧ t.params = s.params
      ∧ (¬ s.ctrl.writing → t.env = { s.env with resets := s.env.resets.tail })
      ∧ (s.ctrl.writing → ∃ part draws,
          part <+: (encodeFrame s.params.cksumZeroCmdCorrection s.opMd s.cfgFeedback).bytes
            ∧ t.env = { s.env with resets := s.env.resets.tail, txStream := s.env.txStream ++ part, draws := draws })

/-- A step in `UNINIT` or `IDLE` executes the instruction the next host item decodes to, with that item taken from the
channel (43_session.md R148, R149). -/
def Obligations.StepExecutesTheOfferedRequest : Prop :=
  ∀ (s : State) (h : HostItem) (rest : List HostItem) (i : Instr),
    s.params.admissible = true → s.resetNow = false → s.ctrl.taking → s.env.channel = h :: rest →
    decodeHost h = .ok i →
    step s = exec i { s with env := { s.env with channel := rest, resets := s.env.resets.tail } }

/-- A scanning step whose byte completes the ten bytes of an instruction executes that instruction, with the byte consumed,
the frame in `FBUF` and the scanner back in `AwaitingStart` (42_scanner.md R133, R136; 43_session.md R148). -/
def Obligations.StepExecutesTheCompletedFrame : Prop :=
  ∀ (s : State) (b : Byte) (i : Instr),
    s.params.admissible = true → s.resetNow = false → s.ctrl.scanning → s.phase = .awaitingEnd →
    s.rxbIdx < s.rxbLen → s.rxb[s.rxbIdx]? = some b → decodeWire (s.fbuf.bytes.take 9 ++ [b]) = .ok i →
    step s
      = exec i
          { s with
              rxbIdx := s.rxbIdx + 1
              phase := .awaitingStart
              fbuf := { s.fbuf with stop := b }
              env := { s.env with resets := s.env.resets.tail } }

/-- 10_state.md R32: the fields of `STATUS`, its reserved bits, the message words, 0 when there is no message, and the view
word `TIMEOUT`. Before the first `INIT` the fields of the configuration show the model's reset values (log 9, log 19). -/
def Obligations.StatusViewShowsTheRegisters : Prop :=
  ∀ s : State,
    s.statusWord.getLsbD 0 = s.ackSeen ∧ s.statusWord.getLsbD 1 = s.lastSent.isSome
      ∧ s.statusWord.getLsbD 2 = s.lastResp.isSome ∧ s.statusWord.getLsbD 3 = s.cfgFeedback
      ∧ s.statusWord.extractLsb' 4 4 = s.phase.code
      ∧ s.statusWord.getLsbD 8 = (decide (s.ctrl ≠ .idle) && decide (s.ctrl ≠ .uninit))
      ∧ s.statusWord.getLsbD 9 = decide (s.ctrl ≠ .uninit)
      ∧ s.statusWord.extractLsb' 10 22 = 0#22
      ∧ (∀ md, s.lastSent = some md → s.lastSentWord.extractLsb' 16 8 = md.cmd
          ∧ s.lastSentWord.extractLsb' 8 8 = md.ph ∧ s.lastSentWord.extractLsb' 0 8 = md.pl)
      ∧ (∀ md, s.lastResp = some md → s.lastRespWord.extractLsb' 16 8 = md.cmd
          ∧ s.lastRespWord.extractLsb' 8 8 = md.ph ∧ s.lastRespWord.extractLsb' 0 8 = md.pl)
      ∧ (s.lastSent = none → s.lastSentWord.extractLsb' 0 24 = 0#24)
      ∧ (s.lastResp = none → s.lastRespWord.extractLsb' 0 24 = 0#24)
      ∧ s.timeoutView = s.cfgTimeout

/-- 60_exceptions.md R221, 10_state.md R32: code, detail and valid bit of `RESULT`; codes 9 to 15 are never shown. The
model's choice (log 24): the word is 0 while it is not valid, and its bits 7..4 and 31..17 are 0. -/
def Obligations.ResultWordShowsCodeAndDetail : Prop :=
  ∀ s : State,
    (s.result = none → s.resultWord = 0#32)
      ∧ (∀ r, s.result = some r →
          s.resultWord.getLsbD 16 = true ∧ s.resultWord.extractLsb' 0 4 = r.code ∧ s.resultWord.extractLsb' 8 8 = r.detail
            ∧ r.code.toNat ≤ 8)
      ∧ (∀ c, s.result = some (.badChecksum c) → s.resultWord = BitVec.ofNat 32 (0x10002 + c.toNat * 256))
      ∧ (∀ c, s.result = some (.unknownCommand c) → s.resultWord = BitVec.ofNat 32 (0x10003 + c.toNat * 256))
      ∧ (∀ b, s.result = some (.moduleError b) → s.resultWord = BitVec.ofNat 32 (0x10005 + b.toNat * 256))
      ∧ (s.result = some .failedAck → s.resultWord = 0x10004#32)
      ∧ (s.result = some .userTimeout → s.resultWord = 0x10006#32)
      ∧ (s.result = some .ok → s.resultWord = 0x10000#32)
      ∧ (s.result = some .badParameter → s.resultWord = 0x10007#32)
      ∧ (∀ e, s.result = some (.transport e) → s.resultWord.extractLsb' 0 4 = 0x1#4)
      ∧ (∀ e, s.result = some (.init e) → s.resultWord.extractLsb' 0 4 = 0x8#4)

/-- The state after reset meets the invariant. -/
def Obligations.ResetMeetsTheInvariant : Prop := State.reset.Inv

/-- From every state that meets the invariant, a step that answers a next state gives one that meets it. The
clauses about `nested` and `TX`, about `flushRead` and about the length of `RXB` are the model's (logs 13, 14, 9). -/
def Obligations.EveryStepKeepsTheInvariant : Prop :=
  ∀ s t : State, s.Inv → step s = .next t → t.Inv

/-- 43_session.md R156, 70_reset_and_hazards.md R262: a write or a read that has not returned leaves every register of the
engine where it is, the read of a flush too; the next answer is the next one of that call's queue. Reading the rules as steps
that leave the engine alone is the model's inference (log 5); that time and the wire stay too is its choice (logs 3, 15). -/
def Obligations.SuspendedCallsLeaveTheEngine : Prop :=
  ∀ s : State, s.params.admissible = true → s.resetNow = false →
    let writes := s.ctrl.writing ∧ s.writeAnswer = .suspended
    let reads := (s.ctrl = .waitRead ∨ s.ctrl = .drainRead ∨ (s.ctrl.flushing ∧ s.flushRead = true))
      ∧ s.readAnswer = .suspended
    writes ∨ reads →
    ∃ e : Env, step s = .next { s with env := e }
      ∧ e.channel = s.env.channel ∧ e.hostReply = s.env.hostReply ∧ e.polls = s.env.polls ∧ e.ticks = s.env.ticks
      ∧ e.txStream = s.env.txStream ∧ e.now = s.env.now
      ∧ (writes → e.writes = s.env.writes.tail ∧ e.reads = s.env.reads)
      ∧ (reads → e.reads = s.env.reads.tail ∧ e.writes = s.env.writes)
end

