-- ==== Sys2Proof/Laws/Encoding.lean ====
section
/-! SUPPORT. Small lemmas about the decoder, the encoder and byte assembly. -/

namespace Sys2Proof

theorem hi8_toNat (v : Word16) : (hi8 v).toNat = v.toNat / 256 := by
  simp only [hi8, BitVec.extractLsb'_toNat, Nat.shiftRight_eq_div_pow]
  omega

theorem lo8_toNat (v : Word16) : (lo8 v).toNat = v.toNat % 256 := by
  simp [lo8]

theorem cat16_toNat (h l : Byte) : (cat16 h l).toNat = h.toNat * 256 + l.toNat := by
  simp only [cat16, BitVec.toNat_ofNat]
  omega

@[simp] theorem hi8_cat16 (h l : Byte) : hi8 (cat16 h l) = h := by
  apply BitVec.eq_of_toNat_eq
  rw [hi8_toNat, cat16_toNat]
  omega

@[simp] theorem lo8_cat16 (h l : Byte) : lo8 (cat16 h l) = l := by
  apply BitVec.eq_of_toNat_eq
  rw [lo8_toNat, cat16_toNat]
  omega

@[simp] theorem cat16_hi8_lo8 (v : Word16) : cat16 (hi8 v) (lo8 v) = v := by
  apply BitVec.eq_of_toNat_eq
  rw [cat16_toNat, hi8_toNat, lo8_toNat]
  omega

@[simp] theorem frameOf_cmd (c : Byte) (o : FrameOps) : (frameOf c o).cmd = c := rfl
@[simp] theorem frameOf_ops (c : Byte) (o : FrameOps) : (frameOf c o).ops = o := rfl
@[simp] theorem frameOf_version (c : Byte) (o : FrameOps) : (frameOf c o).version = o.version := rfl
@[simp] theorem frameOf_length (c : Byte) (o : FrameOps) : (frameOf c o).length = o.length := rfl
@[simp] theorem frameOf_fb (c : Byte) (o : FrameOps) : (frameOf c o).fb = o.fb := rfl
@[simp] theorem frameOf_ph (c : Byte) (o : FrameOps) : (frameOf c o).ph = o.ph := rfl
@[simp] theorem frameOf_pl (c : Byte) (o : FrameOps) : (frameOf c o).pl = o.pl := rfl
@[simp] theorem frameOf_ckHi (c : Byte) (o : FrameOps) : (frameOf c o).ckHi = o.ckHi := rfl
@[simp] theorem frameOf_ckLo (c : Byte) (o : FrameOps) : (frameOf c o).ckLo = o.ckLo := rfl
@[simp] theorem frameOf_start (c : Byte) (o : FrameOps) : (frameOf c o).start = Config.startMark := rfl
@[simp] theorem frameOf_stop (c : Byte) (o : FrameOps) : (frameOf c o).stop = Config.endMark := rfl

theorem Frame.ofBytes?_bytes (f : Frame) : Frame.ofBytes? f.bytes = some f := rfl

theorem Frame.bytes_of_ofBytes? {l : List Byte} {f : Frame} (h : Frame.ofBytes? l = some f) : f.bytes = l := by
  unfold Frame.ofBytes? at h
  split at h
  · cases h; rfl
  · cases h

/-- The codes of the rows are the default catalogue. -/
theorem catalogueRows_codes : catalogueRows.map (fun r => r.1) = Config.catalogue := rfl

/-- Each row's instruction carries its code and operands. -/
theorem catalogueRows_frame? : ∀ r ∈ catalogueRows, ∀ o, (r.2 o).frame? = some (r.1, o) := by
  intro r hr o
  simp only [catalogueRows, List.mem_append, List.mem_cons, List.not_mem_nil, or_false] at hr
  rcases hr with hr | hr
  all_goals repeat' (first | (rcases hr with hr | hr) | subst hr)
  all_goals rfl

/-- A code outside the catalogue has no row. -/
theorem catalogueRows_find?_none {c : Byte} (h : c ∉ Config.catalogue) :
    catalogueRows.find? (fun r => r.1 == c) = none := by
  rw [List.find?_eq_none]
  intro r hr he
  have hc : r.1 = c := by simpa using he
  exact h (by rw [← hc, ← catalogueRows_codes]; exact List.mem_map_of_mem hr)

/-- What a frame decodes to carries its code and operands. -/
theorem decodeFrame_frame? (f : Frame) : (decodeFrame f).frame? = some (f.cmd, f.ops) := by
  unfold decodeFrame
  split
  · rename_i r h
    have hc : r.1 = f.cmd := by simpa using List.find?_some h
    rw [catalogueRows_frame? r (List.mem_of_find?_eq_some h), hc]
  · rfl

end Sys2Proof
end

