-- ==== Sys2Proof/Laws/State.lean ====
section
/-! SUPPORT. Each register after each update of the state: one lemma per field and update, so that no proof unfolds a record
update. -/

namespace Sys2Proof.Machine

variable (s : State)

/-! ### goto -/

@[simp] theorem State.goto_ctrl (c : Ctrl) : (s.goto c).ctrl = c := rfl
@[simp] theorem State.goto_cfgFeedback (c : Ctrl) : (s.goto c).cfgFeedback = s.cfgFeedback := rfl
@[simp] theorem State.goto_cfgTimeout (c : Ctrl) : (s.goto c).cfgTimeout = s.cfgTimeout := rfl
@[simp] theorem State.goto_lastSent (c : Ctrl) : (s.goto c).lastSent = s.lastSent := rfl
@[simp] theorem State.goto_lastResp (c : Ctrl) : (s.goto c).lastResp = s.lastResp := rfl
@[simp] theorem State.goto_ackSeen (c : Ctrl) : (s.goto c).ackSeen = s.ackSeen := rfl
@[simp] theorem State.goto_fbuf (c : Ctrl) : (s.goto c).fbuf = s.fbuf := rfl
@[simp] theorem State.goto_phase (c : Ctrl) : (s.goto c).phase = s.phase := rfl
@[simp] theorem State.goto_rxb (c : Ctrl) : (s.goto c).rxb = s.rxb := rfl
@[simp] theorem State.goto_rxbLen (c : Ctrl) : (s.goto c).rxbLen = s.rxbLen := rfl
@[simp] theorem State.goto_rxbIdx (c : Ctrl) : (s.goto c).rxbIdx = s.rxbIdx := rfl
@[simp] theorem State.goto_waitStart (c : Ctrl) : (s.goto c).waitStart = s.waitStart := rfl
@[simp] theorem State.goto_waitAckreq (c : Ctrl) : (s.goto c).waitAckreq = s.waitAckreq := rfl
@[simp] theorem State.goto_opTxFail (c : Ctrl) : (s.goto c).opTxFail = s.opTxFail := rfl
@[simp] theorem State.goto_result (c : Ctrl) : (s.goto c).result = s.result := rfl
@[simp] theorem State.goto_nested (c : Ctrl) : (s.goto c).nested = s.nested := rfl
@[simp] theorem State.goto_opMd (c : Ctrl) : (s.goto c).opMd = s.opMd := rfl
@[simp] theorem State.goto_opOverride (c : Ctrl) : (s.goto c).opOverride = s.opOverride := rfl
@[simp] theorem State.goto_flushRead (c : Ctrl) : (s.goto c).flushRead = s.flushRead := rfl
@[simp] theorem State.goto_params (c : Ctrl) : (s.goto c).params = s.params := rfl
@[simp] theorem State.goto_env (c : Ctrl) : (s.goto c).env = s.env := rfl

/-! ### freeDraw -/

@[simp] theorem State.freeDraw_ctrl : (s.freeDraw).ctrl = s.ctrl := rfl
@[simp] theorem State.freeDraw_cfgFeedback : (s.freeDraw).cfgFeedback = s.cfgFeedback := rfl
@[simp] theorem State.freeDraw_cfgTimeout : (s.freeDraw).cfgTimeout = s.cfgTimeout := rfl
@[simp] theorem State.freeDraw_lastSent : (s.freeDraw).lastSent = s.lastSent := rfl
@[simp] theorem State.freeDraw_lastResp : (s.freeDraw).lastResp = s.lastResp := rfl
@[simp] theorem State.freeDraw_ackSeen : (s.freeDraw).ackSeen = s.ackSeen := rfl
@[simp] theorem State.freeDraw_fbuf : (s.freeDraw).fbuf = s.fbuf := rfl
@[simp] theorem State.freeDraw_phase : (s.freeDraw).phase = s.phase := rfl
@[simp] theorem State.freeDraw_rxb : (s.freeDraw).rxb = s.rxb := rfl
@[simp] theorem State.freeDraw_rxbLen : (s.freeDraw).rxbLen = s.rxbLen := rfl
@[simp] theorem State.freeDraw_rxbIdx : (s.freeDraw).rxbIdx = s.rxbIdx := rfl
@[simp] theorem State.freeDraw_waitStart : (s.freeDraw).waitStart = s.waitStart := rfl
@[simp] theorem State.freeDraw_waitAckreq : (s.freeDraw).waitAckreq = s.waitAckreq := rfl
@[simp] theorem State.freeDraw_opTxFail : (s.freeDraw).opTxFail = s.opTxFail := rfl
@[simp] theorem State.freeDraw_result : (s.freeDraw).result = s.result := rfl
@[simp] theorem State.freeDraw_nested : (s.freeDraw).nested = s.nested := rfl
@[simp] theorem State.freeDraw_opMd : (s.freeDraw).opMd = s.opMd := rfl
@[simp] theorem State.freeDraw_opOverride : (s.freeDraw).opOverride = s.opOverride := rfl
@[simp] theorem State.freeDraw_flushRead : (s.freeDraw).flushRead = s.flushRead := rfl
@[simp] theorem State.freeDraw_params : (s.freeDraw).params = s.params := rfl
@[simp] theorem State.freeDraw_channel : (s.freeDraw).env.channel = s.env.channel := rfl
@[simp] theorem State.freeDraw_hostReply : (s.freeDraw).env.hostReply = s.env.hostReply := rfl
@[simp] theorem State.freeDraw_polls : (s.freeDraw).env.polls = s.env.polls := rfl
@[simp] theorem State.freeDraw_reads : (s.freeDraw).env.reads = s.env.reads := rfl
@[simp] theorem State.freeDraw_writes : (s.freeDraw).env.writes = s.env.writes := rfl
@[simp] theorem State.freeDraw_ticks : (s.freeDraw).env.ticks = s.env.ticks := rfl
@[simp] theorem State.freeDraw_resets : (s.freeDraw).env.resets = s.env.resets := rfl
@[simp] theorem State.freeDraw_txStream : (s.freeDraw).env.txStream = s.env.txStream := rfl
@[simp] theorem State.freeDraw_now : (s.freeDraw).env.now = s.env.now := rfl
@[simp] theorem State.freeDraw_draws : (s.freeDraw).env.draws = s.env.draws + 1 := rfl

/-! ### afterResetInput -/

@[simp] theorem State.afterResetInput_ctrl : (s.afterResetInput).ctrl = s.ctrl := rfl
@[simp] theorem State.afterResetInput_cfgFeedback : (s.afterResetInput).cfgFeedback = s.cfgFeedback := rfl
@[simp] theorem State.afterResetInput_cfgTimeout : (s.afterResetInput).cfgTimeout = s.cfgTimeout := rfl
@[simp] theorem State.afterResetInput_lastSent : (s.afterResetInput).lastSent = s.lastSent := rfl
@[simp] theorem State.afterResetInput_lastResp : (s.afterResetInput).lastResp = s.lastResp := rfl
@[simp] theorem State.afterResetInput_ackSeen : (s.afterResetInput).ackSeen = s.ackSeen := rfl
@[simp] theorem State.afterResetInput_fbuf : (s.afterResetInput).fbuf = s.fbuf := rfl
@[simp] theorem State.afterResetInput_phase : (s.afterResetInput).phase = s.phase := rfl
@[simp] theorem State.afterResetInput_rxb : (s.afterResetInput).rxb = s.rxb := rfl
@[simp] theorem State.afterResetInput_rxbLen : (s.afterResetInput).rxbLen = s.rxbLen := rfl
@[simp] theorem State.afterResetInput_rxbIdx : (s.afterResetInput).rxbIdx = s.rxbIdx := rfl
@[simp] theorem State.afterResetInput_waitStart : (s.afterResetInput).waitStart = s.waitStart := rfl
@[simp] theorem State.afterResetInput_waitAckreq : (s.afterResetInput).waitAckreq = s.waitAckreq := rfl
@[simp] theorem State.afterResetInput_opTxFail : (s.afterResetInput).opTxFail = s.opTxFail := rfl
@[simp] theorem State.afterResetInput_result : (s.afterResetInput).result = s.result := rfl
@[simp] theorem State.afterResetInput_nested : (s.afterResetInput).nested = s.nested := rfl
@[simp] theorem State.afterResetInput_opMd : (s.afterResetInput).opMd = s.opMd := rfl
@[simp] theorem State.afterResetInput_opOverride : (s.afterResetInput).opOverride = s.opOverride := rfl
@[simp] theorem State.afterResetInput_flushRead : (s.afterResetInput).flushRead = s.flushRead := rfl
@[simp] theorem State.afterResetInput_params : (s.afterResetInput).params = s.params := rfl
@[simp] theorem State.afterResetInput_channel : (s.afterResetInput).env.channel = s.env.channel := rfl
@[simp] theorem State.afterResetInput_hostReply : (s.afterResetInput).env.hostReply = s.env.hostReply := rfl
@[simp] theorem State.afterResetInput_polls : (s.afterResetInput).env.polls = s.env.polls := rfl
@[simp] theorem State.afterResetInput_reads : (s.afterResetInput).env.reads = s.env.reads := rfl
@[simp] theorem State.afterResetInput_writes : (s.afterResetInput).env.writes = s.env.writes := rfl
@[simp] theorem State.afterResetInput_ticks : (s.afterResetInput).env.ticks = s.env.ticks := rfl
@[simp] theorem State.afterResetInput_resets : (s.afterResetInput).env.resets = s.env.resets.tail := rfl
@[simp] theorem State.afterResetInput_txStream : (s.afterResetInput).env.txStream = s.env.txStream := rfl
@[simp] theorem State.afterResetInput_now : (s.afterResetInput).env.now = s.env.now := rfl
@[simp] theorem State.afterResetInput_draws : (s.afterResetInput).env.draws = s.env.draws := rfl

/-! ### takeItem -/

@[simp] theorem State.takeItem_ctrl : (s.takeItem).ctrl = s.ctrl := rfl
@[simp] theorem State.takeItem_cfgFeedback : (s.takeItem).cfgFeedback = s.cfgFeedback := rfl
@[simp] theorem State.takeItem_cfgTimeout : (s.takeItem).cfgTimeout = s.cfgTimeout := rfl
@[simp] theorem State.takeItem_lastSent : (s.takeItem).lastSent = s.lastSent := rfl
@[simp] theorem State.takeItem_lastResp : (s.takeItem).lastResp = s.lastResp := rfl
@[simp] theorem State.takeItem_ackSeen : (s.takeItem).ackSeen = s.ackSeen := rfl
@[simp] theorem State.takeItem_fbuf : (s.takeItem).fbuf = s.fbuf := rfl
@[simp] theorem State.takeItem_phase : (s.takeItem).phase = s.phase := rfl
@[simp] theorem State.takeItem_rxb : (s.takeItem).rxb = s.rxb := rfl
@[simp] theorem State.takeItem_rxbLen : (s.takeItem).rxbLen = s.rxbLen := rfl
@[simp] theorem State.takeItem_rxbIdx : (s.takeItem).rxbIdx = s.rxbIdx := rfl
@[simp] theorem State.takeItem_waitStart : (s.takeItem).waitStart = s.waitStart := rfl
@[simp] theorem State.takeItem_waitAckreq : (s.takeItem).waitAckreq = s.waitAckreq := rfl
@[simp] theorem State.takeItem_opTxFail : (s.takeItem).opTxFail = s.opTxFail := rfl
@[simp] theorem State.takeItem_result : (s.takeItem).result = s.result := rfl
@[simp] theorem State.takeItem_nested : (s.takeItem).nested = s.nested := rfl
@[simp] theorem State.takeItem_opMd : (s.takeItem).opMd = s.opMd := rfl
@[simp] theorem State.takeItem_opOverride : (s.takeItem).opOverride = s.opOverride := rfl
@[simp] theorem State.takeItem_flushRead : (s.takeItem).flushRead = s.flushRead := rfl
@[simp] theorem State.takeItem_params : (s.takeItem).params = s.params := rfl
@[simp] theorem State.takeItem_channel : (s.takeItem).env.channel = s.env.channel.tail := rfl
@[simp] theorem State.takeItem_hostReply : (s.takeItem).env.hostReply = s.env.hostReply := rfl
@[simp] theorem State.takeItem_polls : (s.takeItem).env.polls = s.env.polls := rfl
@[simp] theorem State.takeItem_reads : (s.takeItem).env.reads = s.env.reads := rfl
@[simp] theorem State.takeItem_writes : (s.takeItem).env.writes = s.env.writes := rfl
@[simp] theorem State.takeItem_ticks : (s.takeItem).env.ticks = s.env.ticks := rfl
@[simp] theorem State.takeItem_resets : (s.takeItem).env.resets = s.env.resets := rfl
@[simp] theorem State.takeItem_txStream : (s.takeItem).env.txStream = s.env.txStream := rfl
@[simp] theorem State.takeItem_now : (s.takeItem).env.now = s.env.now := rfl
@[simp] theorem State.takeItem_draws : (s.takeItem).env.draws = s.env.draws := rfl

/-! ### afterPoll -/

@[simp] theorem State.afterPoll_ctrl : (s.afterPoll).ctrl = s.ctrl := by unfold State.afterPoll; split <;> rfl
@[simp] theorem State.afterPoll_cfgFeedback : (s.afterPoll).cfgFeedback = s.cfgFeedback := by unfold State.afterPoll; split <;> rfl
@[simp] theorem State.afterPoll_cfgTimeout : (s.afterPoll).cfgTimeout = s.cfgTimeout := by unfold State.afterPoll; split <;> rfl
@[simp] theorem State.afterPoll_lastSent : (s.afterPoll).lastSent = s.lastSent := by unfold State.afterPoll; split <;> rfl
@[simp] theorem State.afterPoll_lastResp : (s.afterPoll).lastResp = s.lastResp := by unfold State.afterPoll; split <;> rfl
@[simp] theorem State.afterPoll_ackSeen : (s.afterPoll).ackSeen = s.ackSeen := by unfold State.afterPoll; split <;> rfl
@[simp] theorem State.afterPoll_fbuf : (s.afterPoll).fbuf = s.fbuf := by unfold State.afterPoll; split <;> rfl
@[simp] theorem State.afterPoll_phase : (s.afterPoll).phase = s.phase := by unfold State.afterPoll; split <;> rfl
@[simp] theorem State.afterPoll_rxb : (s.afterPoll).rxb = s.rxb := by unfold State.afterPoll; split <;> rfl
@[simp] theorem State.afterPoll_rxbLen : (s.afterPoll).rxbLen = s.rxbLen := by unfold State.afterPoll; split <;> rfl
@[simp] theorem State.afterPoll_rxbIdx : (s.afterPoll).rxbIdx = s.rxbIdx := by unfold State.afterPoll; split <;> rfl
@[simp] theorem State.afterPoll_waitStart : (s.afterPoll).waitStart = s.waitStart := by unfold State.afterPoll; split <;> rfl
@[simp] theorem State.afterPoll_waitAckreq : (s.afterPoll).waitAckreq = s.waitAckreq := by unfold State.afterPoll; split <;> rfl
@[simp] theorem State.afterPoll_opTxFail : (s.afterPoll).opTxFail = s.opTxFail := by unfold State.afterPoll; split <;> rfl
@[simp] theorem State.afterPoll_result : (s.afterPoll).result = s.result := by unfold State.afterPoll; split <;> rfl
@[simp] theorem State.afterPoll_nested : (s.afterPoll).nested = s.nested := by unfold State.afterPoll; split <;> rfl
@[simp] theorem State.afterPoll_opMd : (s.afterPoll).opMd = s.opMd := by unfold State.afterPoll; split <;> rfl
@[simp] theorem State.afterPoll_opOverride : (s.afterPoll).opOverride = s.opOverride := by unfold State.afterPoll; split <;> rfl
@[simp] theorem State.afterPoll_flushRead : (s.afterPoll).flushRead = s.flushRead := by unfold State.afterPoll; split <;> rfl
@[simp] theorem State.afterPoll_params : (s.afterPoll).params = s.params := by unfold State.afterPoll; split <;> rfl
@[simp] theorem State.afterPoll_channel : (s.afterPoll).env.channel = s.env.channel := by unfold State.afterPoll; split <;> rfl
@[simp] theorem State.afterPoll_hostReply : (s.afterPoll).env.hostReply = s.env.hostReply := by unfold State.afterPoll; split <;> rfl
@[simp] theorem State.afterPoll_reads : (s.afterPoll).env.reads = s.env.reads := by unfold State.afterPoll; split <;> rfl
@[simp] theorem State.afterPoll_writes : (s.afterPoll).env.writes = s.env.writes := by unfold State.afterPoll; split <;> rfl
@[simp] theorem State.afterPoll_ticks : (s.afterPoll).env.ticks = s.env.ticks := by unfold State.afterPoll; split <;> rfl
@[simp] theorem State.afterPoll_resets : (s.afterPoll).env.resets = s.env.resets := by unfold State.afterPoll; split <;> rfl
@[simp] theorem State.afterPoll_txStream : (s.afterPoll).env.txStream = s.env.txStream := by unfold State.afterPoll; split <;> rfl
@[simp] theorem State.afterPoll_now : (s.afterPoll).env.now = s.env.now := by unfold State.afterPoll; split <;> rfl

/-! ### afterWrite -/

@[simp] theorem State.afterWrite_ctrl : (s.afterWrite).ctrl = s.ctrl := by unfold State.afterWrite; split <;> rfl
@[simp] theorem State.afterWrite_cfgFeedback : (s.afterWrite).cfgFeedback = s.cfgFeedback := by unfold State.afterWrite; split <;> rfl
@[simp] theorem State.afterWrite_cfgTimeout : (s.afterWrite).cfgTimeout = s.cfgTimeout := by unfold State.afterWrite; split <;> rfl
@[simp] theorem State.afterWrite_lastSent : (s.afterWrite).lastSent = s.lastSent := by unfold State.afterWrite; split <;> rfl
@[simp] theorem State.afterWrite_lastResp : (s.afterWrite).lastResp = s.lastResp := by unfold State.afterWrite; split <;> rfl
@[simp] theorem State.afterWrite_ackSeen : (s.afterWrite).ackSeen = s.ackSeen := by unfold State.afterWrite; split <;> rfl
@[simp] theorem State.afterWrite_fbuf : (s.afterWrite).fbuf = s.fbuf := by unfold State.afterWrite; split <;> rfl
@[simp] theorem State.afterWrite_phase : (s.afterWrite).phase = s.phase := by unfold State.afterWrite; split <;> rfl
@[simp] theorem State.afterWrite_rxb : (s.afterWrite).rxb = s.rxb := by unfold State.afterWrite; split <;> rfl
@[simp] theorem State.afterWrite_rxbLen : (s.afterWrite).rxbLen = s.rxbLen := by unfold State.afterWrite; split <;> rfl
@[simp] theorem State.afterWrite_rxbIdx : (s.afterWrite).rxbIdx = s.rxbIdx := by unfold State.afterWrite; split <;> rfl
@[simp] theorem State.afterWrite_waitStart : (s.afterWrite).waitStart = s.waitStart := by unfold State.afterWrite; split <;> rfl
@[simp] theorem State.afterWrite_waitAckreq : (s.afterWrite).waitAckreq = s.waitAckreq := by unfold State.afterWrite; split <;> rfl
@[simp] theorem State.afterWrite_opTxFail : (s.afterWrite).opTxFail = s.opTxFail := by unfold State.afterWrite; split <;> rfl
@[simp] theorem State.afterWrite_result : (s.afterWrite).result = s.result := by unfold State.afterWrite; split <;> rfl
@[simp] theorem State.afterWrite_nested : (s.afterWrite).nested = s.nested := by unfold State.afterWrite; split <;> rfl
@[simp] theorem State.afterWrite_opMd : (s.afterWrite).opMd = s.opMd := by unfold State.afterWrite; split <;> rfl
@[simp] theorem State.afterWrite_opOverride : (s.afterWrite).opOverride = s.opOverride := by unfold State.afterWrite; split <;> rfl
@[simp] theorem State.afterWrite_flushRead : (s.afterWrite).flushRead = s.flushRead := by unfold State.afterWrite; split <;> rfl
@[simp] theorem State.afterWrite_params : (s.afterWrite).params = s.params := by unfold State.afterWrite; split <;> rfl
@[simp] theorem State.afterWrite_channel : (s.afterWrite).env.channel = s.env.channel := by unfold State.afterWrite; split <;> rfl
@[simp] theorem State.afterWrite_hostReply : (s.afterWrite).env.hostReply = s.env.hostReply := by unfold State.afterWrite; split <;> rfl
@[simp] theorem State.afterWrite_polls : (s.afterWrite).env.polls = s.env.polls := by unfold State.afterWrite; split <;> rfl
@[simp] theorem State.afterWrite_reads : (s.afterWrite).env.reads = s.env.reads := by unfold State.afterWrite; split <;> rfl
@[simp] theorem State.afterWrite_ticks : (s.afterWrite).env.ticks = s.env.ticks := by unfold State.afterWrite; split <;> rfl
@[simp] theorem State.afterWrite_resets : (s.afterWrite).env.resets = s.env.resets := by unfold State.afterWrite; split <;> rfl
@[simp] theorem State.afterWrite_txStream : (s.afterWrite).env.txStream = s.env.txStream := by unfold State.afterWrite; split <;> rfl
@[simp] theorem State.afterWrite_now : (s.afterWrite).env.now = s.env.now := by unfold State.afterWrite; split <;> rfl

/-! ### afterRead -/

@[simp] theorem State.afterRead_ctrl : (s.afterRead).ctrl = s.ctrl := by unfold State.afterRead; split <;> rfl
@[simp] theorem State.afterRead_cfgFeedback : (s.afterRead).cfgFeedback = s.cfgFeedback := by unfold State.afterRead; split <;> rfl
@[simp] theorem State.afterRead_cfgTimeout : (s.afterRead).cfgTimeout = s.cfgTimeout := by unfold State.afterRead; split <;> rfl
@[simp] theorem State.afterRead_lastSent : (s.afterRead).lastSent = s.lastSent := by unfold State.afterRead; split <;> rfl
@[simp] theorem State.afterRead_lastResp : (s.afterRead).lastResp = s.lastResp := by unfold State.afterRead; split <;> rfl
@[simp] theorem State.afterRead_ackSeen : (s.afterRead).ackSeen = s.ackSeen := by unfold State.afterRead; split <;> rfl
@[simp] theorem State.afterRead_fbuf : (s.afterRead).fbuf = s.fbuf := by unfold State.afterRead; split <;> rfl
@[simp] theorem State.afterRead_phase : (s.afterRead).phase = s.phase := by unfold State.afterRead; split <;> rfl
@[simp] theorem State.afterRead_rxb : (s.afterRead).rxb = s.rxb := by unfold State.afterRead; split <;> rfl
@[simp] theorem State.afterRead_rxbLen : (s.afterRead).rxbLen = s.rxbLen := by unfold State.afterRead; split <;> rfl
@[simp] theorem State.afterRead_rxbIdx : (s.afterRead).rxbIdx = s.rxbIdx := by unfold State.afterRead; split <;> rfl
@[simp] theorem State.afterRead_waitStart : (s.afterRead).waitStart = s.waitStart := by unfold State.afterRead; split <;> rfl
@[simp] theorem State.afterRead_waitAckreq : (s.afterRead).waitAckreq = s.waitAckreq := by unfold State.afterRead; split <;> rfl
@[simp] theorem State.afterRead_opTxFail : (s.afterRead).opTxFail = s.opTxFail := by unfold State.afterRead; split <;> rfl
@[simp] theorem State.afterRead_result : (s.afterRead).result = s.result := by unfold State.afterRead; split <;> rfl
@[simp] theorem State.afterRead_nested : (s.afterRead).nested = s.nested := by unfold State.afterRead; split <;> rfl
@[simp] theorem State.afterRead_opMd : (s.afterRead).opMd = s.opMd := by unfold State.afterRead; split <;> rfl
@[simp] theorem State.afterRead_opOverride : (s.afterRead).opOverride = s.opOverride := by unfold State.afterRead; split <;> rfl
@[simp] theorem State.afterRead_flushRead : (s.afterRead).flushRead = s.flushRead := by unfold State.afterRead; split <;> rfl
@[simp] theorem State.afterRead_params : (s.afterRead).params = s.params := by unfold State.afterRead; split <;> rfl
@[simp] theorem State.afterRead_channel : (s.afterRead).env.channel = s.env.channel := by unfold State.afterRead; split <;> rfl
@[simp] theorem State.afterRead_hostReply : (s.afterRead).env.hostReply = s.env.hostReply := by unfold State.afterRead; split <;> rfl
@[simp] theorem State.afterRead_polls : (s.afterRead).env.polls = s.env.polls := by unfold State.afterRead; split <;> rfl
@[simp] theorem State.afterRead_writes : (s.afterRead).env.writes = s.env.writes := by unfold State.afterRead; split <;> rfl
@[simp] theorem State.afterRead_ticks : (s.afterRead).env.ticks = s.env.ticks := by unfold State.afterRead; split <;> rfl
@[simp] theorem State.afterRead_resets : (s.afterRead).env.resets = s.env.resets := by unfold State.afterRead; split <;> rfl
@[simp] theorem State.afterRead_txStream : (s.afterRead).env.txStream = s.env.txStream := by unfold State.afterRead; split <;> rfl
@[simp] theorem State.afterRead_now : (s.afterRead).env.now = s.env.now := by unfold State.afterRead; split <;> rfl

/-! ### afterTick -/

@[simp] theorem State.afterTick_ctrl : (s.afterTick).ctrl = s.ctrl := by unfold State.afterTick; split <;> rfl
@[simp] theorem State.afterTick_cfgFeedback : (s.afterTick).cfgFeedback = s.cfgFeedback := by unfold State.afterTick; split <;> rfl
@[simp] theorem State.afterTick_cfgTimeout : (s.afterTick).cfgTimeout = s.cfgTimeout := by unfold State.afterTick; split <;> rfl
@[simp] theorem State.afterTick_lastSent : (s.afterTick).lastSent = s.lastSent := by unfold State.afterTick; split <;> rfl
@[simp] theorem State.afterTick_lastResp : (s.afterTick).lastResp = s.lastResp := by unfold State.afterTick; split <;> rfl
@[simp] theorem State.afterTick_ackSeen : (s.afterTick).ackSeen = s.ackSeen := by unfold State.afterTick; split <;> rfl
@[simp] theorem State.afterTick_fbuf : (s.afterTick).fbuf = s.fbuf := by unfold State.afterTick; split <;> rfl
@[simp] theorem State.afterTick_phase : (s.afterTick).phase = s.phase := by unfold State.afterTick; split <;> rfl
@[simp] theorem State.afterTick_rxb : (s.afterTick).rxb = s.rxb := by unfold State.afterTick; split <;> rfl
@[simp] theorem State.afterTick_rxbLen : (s.afterTick).rxbLen = s.rxbLen := by unfold State.afterTick; split <;> rfl
@[simp] theorem State.afterTick_rxbIdx : (s.afterTick).rxbIdx = s.rxbIdx := by unfold State.afterTick; split <;> rfl
@[simp] theorem State.afterTick_waitStart : (s.afterTick).waitStart = s.waitStart := by unfold State.afterTick; split <;> rfl
@[simp] theorem State.afterTick_waitAckreq : (s.afterTick).waitAckreq = s.waitAckreq := by unfold State.afterTick; split <;> rfl
@[simp] theorem State.afterTick_opTxFail : (s.afterTick).opTxFail = s.opTxFail := by unfold State.afterTick; split <;> rfl
@[simp] theorem State.afterTick_result : (s.afterTick).result = s.result := by unfold State.afterTick; split <;> rfl
@[simp] theorem State.afterTick_nested : (s.afterTick).nested = s.nested := by unfold State.afterTick; split <;> rfl
@[simp] theorem State.afterTick_opMd : (s.afterTick).opMd = s.opMd := by unfold State.afterTick; split <;> rfl
@[simp] theorem State.afterTick_opOverride : (s.afterTick).opOverride = s.opOverride := by unfold State.afterTick; split <;> rfl
@[simp] theorem State.afterTick_flushRead : (s.afterTick).flushRead = s.flushRead := by unfold State.afterTick; split <;> rfl
@[simp] theorem State.afterTick_params : (s.afterTick).params = s.params := by unfold State.afterTick; split <;> rfl
@[simp] theorem State.afterTick_channel : (s.afterTick).env.channel = s.env.channel := by unfold State.afterTick; split <;> rfl
@[simp] theorem State.afterTick_hostReply : (s.afterTick).env.hostReply = s.env.hostReply := by unfold State.afterTick; split <;> rfl
@[simp] theorem State.afterTick_polls : (s.afterTick).env.polls = s.env.polls := by unfold State.afterTick; split <;> rfl
@[simp] theorem State.afterTick_reads : (s.afterTick).env.reads = s.env.reads := by unfold State.afterTick; split <;> rfl
@[simp] theorem State.afterTick_writes : (s.afterTick).env.writes = s.env.writes := by unfold State.afterTick; split <;> rfl
@[simp] theorem State.afterTick_resets : (s.afterTick).env.resets = s.env.resets := by unfold State.afterTick; split <;> rfl
@[simp] theorem State.afterTick_txStream : (s.afterTick).env.txStream = s.env.txStream := by unfold State.afterTick; split <;> rfl
@[simp] theorem State.afterTick_now : (s.afterTick).env.now = s.env.now := by unfold State.afterTick; split <;> rfl

/-! ### putWire -/

@[simp] theorem State.putWire_ctrl (l : List Byte) : (s.putWire l).ctrl = s.ctrl := rfl
@[simp] theorem State.putWire_cfgFeedback (l : List Byte) : (s.putWire l).cfgFeedback = s.cfgFeedback := rfl
@[simp] theorem State.putWire_cfgTimeout (l : List Byte) : (s.putWire l).cfgTimeout = s.cfgTimeout := rfl
@[simp] theorem State.putWire_lastSent (l : List Byte) : (s.putWire l).lastSent = s.lastSent := rfl
@[simp] theorem State.putWire_lastResp (l : List Byte) : (s.putWire l).lastResp = s.lastResp := rfl
@[simp] theorem State.putWire_ackSeen (l : List Byte) : (s.putWire l).ackSeen = s.ackSeen := rfl
@[simp] theorem State.putWire_fbuf (l : List Byte) : (s.putWire l).fbuf = s.fbuf := rfl
@[simp] theorem State.putWire_phase (l : List Byte) : (s.putWire l).phase = s.phase := rfl
@[simp] theorem State.putWire_rxb (l : List Byte) : (s.putWire l).rxb = s.rxb := rfl
@[simp] theorem State.putWire_rxbLen (l : List Byte) : (s.putWire l).rxbLen = s.rxbLen := rfl
@[simp] theorem State.putWire_rxbIdx (l : List Byte) : (s.putWire l).rxbIdx = s.rxbIdx := rfl
@[simp] theorem State.putWire_waitStart (l : List Byte) : (s.putWire l).waitStart = s.waitStart := rfl
@[simp] theorem State.putWire_waitAckreq (l : List Byte) : (s.putWire l).waitAckreq = s.waitAckreq := rfl
@[simp] theorem State.putWire_opTxFail (l : List Byte) : (s.putWire l).opTxFail = s.opTxFail := rfl
@[simp] theorem State.putWire_result (l : List Byte) : (s.putWire l).result = s.result := rfl
@[simp] theorem State.putWire_nested (l : List Byte) : (s.putWire l).nested = s.nested := rfl
@[simp] theorem State.putWire_opMd (l : List Byte) : (s.putWire l).opMd = s.opMd := rfl
@[simp] theorem State.putWire_opOverride (l : List Byte) : (s.putWire l).opOverride = s.opOverride := rfl
@[simp] theorem State.putWire_flushRead (l : List Byte) : (s.putWire l).flushRead = s.flushRead := rfl
@[simp] theorem State.putWire_params (l : List Byte) : (s.putWire l).params = s.params := rfl
@[simp] theorem State.putWire_channel (l : List Byte) : (s.putWire l).env.channel = s.env.channel := rfl
@[simp] theorem State.putWire_hostReply (l : List Byte) : (s.putWire l).env.hostReply = s.env.hostReply := rfl
@[simp] theorem State.putWire_polls (l : List Byte) : (s.putWire l).env.polls = s.env.polls := rfl
@[simp] theorem State.putWire_reads (l : List Byte) : (s.putWire l).env.reads = s.env.reads := rfl
@[simp] theorem State.putWire_writes (l : List Byte) : (s.putWire l).env.writes = s.env.writes := rfl
@[simp] theorem State.putWire_ticks (l : List Byte) : (s.putWire l).env.ticks = s.env.ticks := rfl
@[simp] theorem State.putWire_resets (l : List Byte) : (s.putWire l).env.resets = s.env.resets := rfl
@[simp] theorem State.putWire_txStream (l : List Byte) : (s.putWire l).env.txStream = s.env.txStream ++ l := rfl
@[simp] theorem State.putWire_now (l : List Byte) : (s.putWire l).env.now = s.env.now := rfl
@[simp] theorem State.putWire_draws (l : List Byte) : (s.putWire l).env.draws = s.env.draws := rfl

/-! ### passTime -/

@[simp] theorem State.passTime_ctrl (d : Nat) : (s.passTime d).ctrl = s.ctrl := by unfold State.passTime State.afterTick; split <;> rfl
@[simp] theorem State.passTime_cfgFeedback (d : Nat) : (s.passTime d).cfgFeedback = s.cfgFeedback := by unfold State.passTime State.afterTick; split <;> rfl
@[simp] theorem State.passTime_cfgTimeout (d : Nat) : (s.passTime d).cfgTimeout = s.cfgTimeout := by unfold State.passTime State.afterTick; split <;> rfl
@[simp] theorem State.passTime_lastSent (d : Nat) : (s.passTime d).lastSent = s.lastSent := by unfold State.passTime State.afterTick; split <;> rfl
@[simp] theorem State.passTime_lastResp (d : Nat) : (s.passTime d).lastResp = s.lastResp := by unfold State.passTime State.afterTick; split <;> rfl
@[simp] theorem State.passTime_ackSeen (d : Nat) : (s.passTime d).ackSeen = s.ackSeen := by unfold State.passTime State.afterTick; split <;> rfl
@[simp] theorem State.passTime_fbuf (d : Nat) : (s.passTime d).fbuf = s.fbuf := by unfold State.passTime State.afterTick; split <;> rfl
@[simp] theorem State.passTime_phase (d : Nat) : (s.passTime d).phase = s.phase := by unfold State.passTime State.afterTick; split <;> rfl
@[simp] theorem State.passTime_rxb (d : Nat) : (s.passTime d).rxb = s.rxb := by unfold State.passTime State.afterTick; split <;> rfl
@[simp] theorem State.passTime_rxbLen (d : Nat) : (s.passTime d).rxbLen = s.rxbLen := by unfold State.passTime State.afterTick; split <;> rfl
@[simp] theorem State.passTime_rxbIdx (d : Nat) : (s.passTime d).rxbIdx = s.rxbIdx := by unfold State.passTime State.afterTick; split <;> rfl
@[simp] theorem State.passTime_waitStart (d : Nat) : (s.passTime d).waitStart = s.waitStart := by unfold State.passTime State.afterTick; split <;> rfl
@[simp] theorem State.passTime_waitAckreq (d : Nat) : (s.passTime d).waitAckreq = s.waitAckreq := by unfold State.passTime State.afterTick; split <;> rfl
@[simp] theorem State.passTime_opTxFail (d : Nat) : (s.passTime d).opTxFail = s.opTxFail := by unfold State.passTime State.afterTick; split <;> rfl
@[simp] theorem State.passTime_result (d : Nat) : (s.passTime d).result = s.result := by unfold State.passTime State.afterTick; split <;> rfl
@[simp] theorem State.passTime_nested (d : Nat) : (s.passTime d).nested = s.nested := by unfold State.passTime State.afterTick; split <;> rfl
@[simp] theorem State.passTime_opMd (d : Nat) : (s.passTime d).opMd = s.opMd := by unfold State.passTime State.afterTick; split <;> rfl
@[simp] theorem State.passTime_opOverride (d : Nat) : (s.passTime d).opOverride = s.opOverride := by unfold State.passTime State.afterTick; split <;> rfl
@[simp] theorem State.passTime_flushRead (d : Nat) : (s.passTime d).flushRead = s.flushRead := by unfold State.passTime State.afterTick; split <;> rfl
@[simp] theorem State.passTime_params (d : Nat) : (s.passTime d).params = s.params := by unfold State.passTime State.afterTick; split <;> rfl
@[simp] theorem State.passTime_channel (d : Nat) : (s.passTime d).env.channel = s.env.channel := by unfold State.passTime State.afterTick; split <;> rfl
@[simp] theorem State.passTime_hostReply (d : Nat) : (s.passTime d).env.hostReply = s.env.hostReply := by unfold State.passTime State.afterTick; split <;> rfl
@[simp] theorem State.passTime_polls (d : Nat) : (s.passTime d).env.polls = s.env.polls := by unfold State.passTime State.afterTick; split <;> rfl
@[simp] theorem State.passTime_reads (d : Nat) : (s.passTime d).env.reads = s.env.reads := by unfold State.passTime State.afterTick; split <;> rfl
@[simp] theorem State.passTime_writes (d : Nat) : (s.passTime d).env.writes = s.env.writes := by unfold State.passTime State.afterTick; split <;> rfl
@[simp] theorem State.passTime_resets (d : Nat) : (s.passTime d).env.resets = s.env.resets := by unfold State.passTime State.afterTick; split <;> rfl
@[simp] theorem State.passTime_txStream (d : Nat) : (s.passTime d).env.txStream = s.env.txStream := by unfold State.passTime State.afterTick; split <;> rfl
@[simp] theorem State.passTime_now (d : Nat) : (s.passTime d).env.now = s.env.now + d + s.tick := rfl

/-! ### loadBatch -/

@[simp] theorem State.loadBatch_ctrl (l : List Byte) : (s.loadBatch l).ctrl = s.ctrl := rfl
@[simp] theorem State.loadBatch_cfgFeedback (l : List Byte) : (s.loadBatch l).cfgFeedback = s.cfgFeedback := rfl
@[simp] theorem State.loadBatch_cfgTimeout (l : List Byte) : (s.loadBatch l).cfgTimeout = s.cfgTimeout := rfl
@[simp] theorem State.loadBatch_lastSent (l : List Byte) : (s.loadBatch l).lastSent = s.lastSent := rfl
@[simp] theorem State.loadBatch_lastResp (l : List Byte) : (s.loadBatch l).lastResp = s.lastResp := rfl
@[simp] theorem State.loadBatch_ackSeen (l : List Byte) : (s.loadBatch l).ackSeen = s.ackSeen := rfl
@[simp] theorem State.loadBatch_fbuf (l : List Byte) : (s.loadBatch l).fbuf = s.fbuf := rfl
@[simp] theorem State.loadBatch_phase (l : List Byte) : (s.loadBatch l).phase = s.phase := rfl
@[simp] theorem State.loadBatch_rxb (l : List Byte) : (s.loadBatch l).rxb = l ++ s.rxb.drop l.length := rfl
@[simp] theorem State.loadBatch_rxbLen (l : List Byte) : (s.loadBatch l).rxbLen = l.length := rfl
@[simp] theorem State.loadBatch_rxbIdx (l : List Byte) : (s.loadBatch l).rxbIdx = 0 := rfl
@[simp] theorem State.loadBatch_waitStart (l : List Byte) : (s.loadBatch l).waitStart = s.waitStart := rfl
@[simp] theorem State.loadBatch_waitAckreq (l : List Byte) : (s.loadBatch l).waitAckreq = s.waitAckreq := rfl
@[simp] theorem State.loadBatch_opTxFail (l : List Byte) : (s.loadBatch l).opTxFail = s.opTxFail := rfl
@[simp] theorem State.loadBatch_result (l : List Byte) : (s.loadBatch l).result = s.result := rfl
@[simp] theorem State.loadBatch_nested (l : List Byte) : (s.loadBatch l).nested = s.nested := rfl
@[simp] theorem State.loadBatch_opMd (l : List Byte) : (s.loadBatch l).opMd = s.opMd := rfl
@[simp] theorem State.loadBatch_opOverride (l : List Byte) : (s.loadBatch l).opOverride = s.opOverride := rfl
@[simp] theorem State.loadBatch_flushRead (l : List Byte) : (s.loadBatch l).flushRead = s.flushRead := rfl
@[simp] theorem State.loadBatch_params (l : List Byte) : (s.loadBatch l).params = s.params := rfl
@[simp] theorem State.loadBatch_env (l : List Byte) : (s.loadBatch l).env = s.env := rfl

/-! ### consume -/

@[simp] theorem State.consume_ctrl : (s.consume).ctrl = s.ctrl := rfl
@[simp] theorem State.consume_cfgFeedback : (s.consume).cfgFeedback = s.cfgFeedback := rfl
@[simp] theorem State.consume_cfgTimeout : (s.consume).cfgTimeout = s.cfgTimeout := rfl
@[simp] theorem State.consume_lastSent : (s.consume).lastSent = s.lastSent := rfl
@[simp] theorem State.consume_lastResp : (s.consume).lastResp = s.lastResp := rfl
@[simp] theorem State.consume_ackSeen : (s.consume).ackSeen = s.ackSeen := rfl
@[simp] theorem State.consume_fbuf : (s.consume).fbuf = s.fbuf := rfl
@[simp] theorem State.consume_phase : (s.consume).phase = s.phase := rfl
@[simp] theorem State.consume_rxb : (s.consume).rxb = s.rxb := rfl
@[simp] theorem State.consume_rxbLen : (s.consume).rxbLen = s.rxbLen := rfl
@[simp] theorem State.consume_rxbIdx : (s.consume).rxbIdx = s.rxbIdx + 1 := rfl
@[simp] theorem State.consume_waitStart : (s.consume).waitStart = s.waitStart := rfl
@[simp] theorem State.consume_waitAckreq : (s.consume).waitAckreq = s.waitAckreq := rfl
@[simp] theorem State.consume_opTxFail : (s.consume).opTxFail = s.opTxFail := rfl
@[simp] theorem State.consume_result : (s.consume).result = s.result := rfl
@[simp] theorem State.consume_nested : (s.consume).nested = s.nested := rfl
@[simp] theorem State.consume_opMd : (s.consume).opMd = s.opMd := rfl
@[simp] theorem State.consume_opOverride : (s.consume).opOverride = s.opOverride := rfl
@[simp] theorem State.consume_flushRead : (s.consume).flushRead = s.flushRead := rfl
@[simp] theorem State.consume_params : (s.consume).params = s.params := rfl
@[simp] theorem State.consume_env : (s.consume).env = s.env := rfl

/-! ### scanByte -/

@[simp] theorem State.scanByte_ctrl (b : Byte) : (s.scanByte b).ctrl = s.ctrl := rfl
@[simp] theorem State.scanByte_cfgFeedback (b : Byte) : (s.scanByte b).cfgFeedback = s.cfgFeedback := rfl
@[simp] theorem State.scanByte_cfgTimeout (b : Byte) : (s.scanByte b).cfgTimeout = s.cfgTimeout := rfl
@[simp] theorem State.scanByte_lastSent (b : Byte) : (s.scanByte b).lastSent = s.lastSent := rfl
@[simp] theorem State.scanByte_lastResp (b : Byte) : (s.scanByte b).lastResp = s.lastResp := rfl
@[simp] theorem State.scanByte_ackSeen (b : Byte) : (s.scanByte b).ackSeen = s.ackSeen := rfl
@[simp] theorem State.scanByte_fbuf (b : Byte) : (s.scanByte b).fbuf = (scan s.phase s.fbuf b).2.2 := rfl
@[simp] theorem State.scanByte_phase (b : Byte) : (s.scanByte b).phase = (scan s.phase s.fbuf b).2.1 := rfl
@[simp] theorem State.scanByte_rxb (b : Byte) : (s.scanByte b).rxb = s.rxb := rfl
@[simp] theorem State.scanByte_rxbLen (b : Byte) : (s.scanByte b).rxbLen = s.rxbLen := rfl
@[simp] theorem State.scanByte_rxbIdx (b : Byte) : (s.scanByte b).rxbIdx = s.rxbIdx := rfl
@[simp] theorem State.scanByte_waitStart (b : Byte) : (s.scanByte b).waitStart = s.waitStart := rfl
@[simp] theorem State.scanByte_waitAckreq (b : Byte) : (s.scanByte b).waitAckreq = s.waitAckreq := rfl
@[simp] theorem State.scanByte_opTxFail (b : Byte) : (s.scanByte b).opTxFail = s.opTxFail := rfl
@[simp] theorem State.scanByte_result (b : Byte) : (s.scanByte b).result = s.result := rfl
@[simp] theorem State.scanByte_nested (b : Byte) : (s.scanByte b).nested = s.nested := rfl
@[simp] theorem State.scanByte_opMd (b : Byte) : (s.scanByte b).opMd = s.opMd := rfl
@[simp] theorem State.scanByte_opOverride (b : Byte) : (s.scanByte b).opOverride = s.opOverride := rfl
@[simp] theorem State.scanByte_flushRead (b : Byte) : (s.scanByte b).flushRead = s.flushRead := rfl
@[simp] theorem State.scanByte_params (b : Byte) : (s.scanByte b).params = s.params := rfl
@[simp] theorem State.scanByte_env (b : Byte) : (s.scanByte b).env = s.env := rfl

/-! ### takeByte -/

@[simp] theorem State.takeByte_ctrl (b : Byte) : (s.takeByte b).ctrl = s.ctrl := rfl
@[simp] theorem State.takeByte_cfgFeedback (b : Byte) : (s.takeByte b).cfgFeedback = s.cfgFeedback := rfl
@[simp] theorem State.takeByte_cfgTimeout (b : Byte) : (s.takeByte b).cfgTimeout = s.cfgTimeout := rfl
@[simp] theorem State.takeByte_lastSent (b : Byte) : (s.takeByte b).lastSent = s.lastSent := rfl
@[simp] theorem State.takeByte_lastResp (b : Byte) : (s.takeByte b).lastResp = s.lastResp := rfl
@[simp] theorem State.takeByte_ackSeen (b : Byte) : (s.takeByte b).ackSeen = s.ackSeen := rfl
@[simp] theorem State.takeByte_fbuf (b : Byte) : (s.takeByte b).fbuf = (scan s.phase s.fbuf b).2.2 := rfl
@[simp] theorem State.takeByte_phase (b : Byte) : (s.takeByte b).phase = (scan s.phase s.fbuf b).2.1 := rfl
@[simp] theorem State.takeByte_rxb (b : Byte) : (s.takeByte b).rxb = s.rxb := rfl
@[simp] theorem State.takeByte_rxbLen (b : Byte) : (s.takeByte b).rxbLen = s.rxbLen := rfl
@[simp] theorem State.takeByte_rxbIdx (b : Byte) : (s.takeByte b).rxbIdx = s.rxbIdx + 1 := rfl
@[simp] theorem State.takeByte_waitStart (b : Byte) : (s.takeByte b).waitStart = s.waitStart := rfl
@[simp] theorem State.takeByte_waitAckreq (b : Byte) : (s.takeByte b).waitAckreq = s.waitAckreq := rfl
@[simp] theorem State.takeByte_opTxFail (b : Byte) : (s.takeByte b).opTxFail = s.opTxFail := rfl
@[simp] theorem State.takeByte_result (b : Byte) : (s.takeByte b).result = s.result := rfl
@[simp] theorem State.takeByte_nested (b : Byte) : (s.takeByte b).nested = s.nested := rfl
@[simp] theorem State.takeByte_opMd (b : Byte) : (s.takeByte b).opMd = s.opMd := rfl
@[simp] theorem State.takeByte_opOverride (b : Byte) : (s.takeByte b).opOverride = s.opOverride := rfl
@[simp] theorem State.takeByte_flushRead (b : Byte) : (s.takeByte b).flushRead = s.flushRead := rfl
@[simp] theorem State.takeByte_params (b : Byte) : (s.takeByte b).params = s.params := rfl
@[simp] theorem State.takeByte_env (b : Byte) : (s.takeByte b).env = s.env := rfl

/-! ### timedPoll -/

@[simp] theorem State.timedPoll_ctrl : (s.timedPoll).ctrl = s.ctrl := by simp [State.timedPoll]
@[simp] theorem State.timedPoll_cfgFeedback : (s.timedPoll).cfgFeedback = s.cfgFeedback := by simp [State.timedPoll]
@[simp] theorem State.timedPoll_cfgTimeout : (s.timedPoll).cfgTimeout = s.cfgTimeout := by simp [State.timedPoll]
@[simp] theorem State.timedPoll_lastSent : (s.timedPoll).lastSent = s.lastSent := by simp [State.timedPoll]
@[simp] theorem State.timedPoll_lastResp : (s.timedPoll).lastResp = s.lastResp := by simp [State.timedPoll]
@[simp] theorem State.timedPoll_ackSeen : (s.timedPoll).ackSeen = s.ackSeen := by simp [State.timedPoll]
@[simp] theorem State.timedPoll_fbuf : (s.timedPoll).fbuf = s.fbuf := by simp [State.timedPoll]
@[simp] theorem State.timedPoll_phase : (s.timedPoll).phase = s.phase := by simp [State.timedPoll]
@[simp] theorem State.timedPoll_rxb : (s.timedPoll).rxb = s.rxb := by simp [State.timedPoll]
@[simp] theorem State.timedPoll_rxbLen : (s.timedPoll).rxbLen = s.rxbLen := by simp [State.timedPoll]
@[simp] theorem State.timedPoll_rxbIdx : (s.timedPoll).rxbIdx = s.rxbIdx := by simp [State.timedPoll]
@[simp] theorem State.timedPoll_waitStart : (s.timedPoll).waitStart = s.waitStart := by simp [State.timedPoll]
@[simp] theorem State.timedPoll_waitAckreq : (s.timedPoll).waitAckreq = s.waitAckreq := by simp [State.timedPoll]
@[simp] theorem State.timedPoll_opTxFail : (s.timedPoll).opTxFail = s.opTxFail := by simp [State.timedPoll]
@[simp] theorem State.timedPoll_result : (s.timedPoll).result = s.result := by simp [State.timedPoll]
@[simp] theorem State.timedPoll_nested : (s.timedPoll).nested = s.nested := by simp [State.timedPoll]
@[simp] theorem State.timedPoll_opMd : (s.timedPoll).opMd = s.opMd := by simp [State.timedPoll]
@[simp] theorem State.timedPoll_opOverride : (s.timedPoll).opOverride = s.opOverride := by simp [State.timedPoll]
@[simp] theorem State.timedPoll_flushRead : (s.timedPoll).flushRead = s.flushRead := by simp [State.timedPoll]
@[simp] theorem State.timedPoll_params : (s.timedPoll).params = s.params := by simp [State.timedPoll]
@[simp] theorem State.timedPoll_channel : (s.timedPoll).env.channel = s.env.channel := by simp [State.timedPoll]
@[simp] theorem State.timedPoll_hostReply : (s.timedPoll).env.hostReply = s.env.hostReply := by simp [State.timedPoll]
@[simp] theorem State.timedPoll_reads : (s.timedPoll).env.reads = s.env.reads := by simp [State.timedPoll]
@[simp] theorem State.timedPoll_writes : (s.timedPoll).env.writes = s.env.writes := by simp [State.timedPoll]
@[simp] theorem State.timedPoll_resets : (s.timedPoll).env.resets = s.env.resets := by simp [State.timedPoll]
@[simp] theorem State.timedPoll_txStream : (s.timedPoll).env.txStream = s.env.txStream := by simp [State.timedPoll]
@[simp] theorem State.timedPoll_now : (s.timedPoll).env.now = s.env.now + s.afterPoll.tick := by simp [State.timedPoll]

/-! ### markTxFail -/

@[simp] theorem State.markTxFail_ctrl : (s.markTxFail).ctrl = s.ctrl := rfl
@[simp] theorem State.markTxFail_cfgFeedback : (s.markTxFail).cfgFeedback = s.cfgFeedback := rfl
@[simp] theorem State.markTxFail_cfgTimeout : (s.markTxFail).cfgTimeout = s.cfgTimeout := rfl
@[simp] theorem State.markTxFail_lastSent : (s.markTxFail).lastSent = s.lastSent := rfl
@[simp] theorem State.markTxFail_lastResp : (s.markTxFail).lastResp = s.lastResp := rfl
@[simp] theorem State.markTxFail_ackSeen : (s.markTxFail).ackSeen = s.ackSeen := rfl
@[simp] theorem State.markTxFail_fbuf : (s.markTxFail).fbuf = s.fbuf := rfl
@[simp] theorem State.markTxFail_phase : (s.markTxFail).phase = s.phase := rfl
@[simp] theorem State.markTxFail_rxb : (s.markTxFail).rxb = s.rxb := rfl
@[simp] theorem State.markTxFail_rxbLen : (s.markTxFail).rxbLen = s.rxbLen := rfl
@[simp] theorem State.markTxFail_rxbIdx : (s.markTxFail).rxbIdx = s.rxbIdx := rfl
@[simp] theorem State.markTxFail_waitStart : (s.markTxFail).waitStart = s.waitStart := rfl
@[simp] theorem State.markTxFail_waitAckreq : (s.markTxFail).waitAckreq = s.waitAckreq := rfl
@[simp] theorem State.markTxFail_opTxFail : (s.markTxFail).opTxFail = true := rfl
@[simp] theorem State.markTxFail_result : (s.markTxFail).result = s.result := rfl
@[simp] theorem State.markTxFail_nested : (s.markTxFail).nested = s.nested := rfl
@[simp] theorem State.markTxFail_opMd : (s.markTxFail).opMd = s.opMd := rfl
@[simp] theorem State.markTxFail_opOverride : (s.markTxFail).opOverride = s.opOverride := rfl
@[simp] theorem State.markTxFail_flushRead : (s.markTxFail).flushRead = s.flushRead := rfl
@[simp] theorem State.markTxFail_params : (s.markTxFail).params = s.params := rfl
@[simp] theorem State.markTxFail_env : (s.markTxFail).env = s.env := rfl

/-! ### recordSent -/

@[simp] theorem State.recordSent_ctrl : (s.recordSent).ctrl = s.ctrl := rfl
@[simp] theorem State.recordSent_cfgFeedback : (s.recordSent).cfgFeedback = s.cfgFeedback := rfl
@[simp] theorem State.recordSent_cfgTimeout : (s.recordSent).cfgTimeout = s.cfgTimeout := rfl
@[simp] theorem State.recordSent_lastSent : (s.recordSent).lastSent = some s.opMd := rfl
@[simp] theorem State.recordSent_lastResp : (s.recordSent).lastResp = s.lastResp := rfl
@[simp] theorem State.recordSent_ackSeen : (s.recordSent).ackSeen = false := rfl
@[simp] theorem State.recordSent_fbuf : (s.recordSent).fbuf = s.fbuf := rfl
@[simp] theorem State.recordSent_phase : (s.recordSent).phase = s.phase := rfl
@[simp] theorem State.recordSent_rxb : (s.recordSent).rxb = s.rxb := rfl
@[simp] theorem State.recordSent_rxbLen : (s.recordSent).rxbLen = s.rxbLen := rfl
@[simp] theorem State.recordSent_rxbIdx : (s.recordSent).rxbIdx = s.rxbIdx := rfl
@[simp] theorem State.recordSent_waitStart : (s.recordSent).waitStart = s.waitStart := rfl
@[simp] theorem State.recordSent_waitAckreq : (s.recordSent).waitAckreq = s.waitAckreq := rfl
@[simp] theorem State.recordSent_opTxFail : (s.recordSent).opTxFail = s.opTxFail := rfl
@[simp] theorem State.recordSent_result : (s.recordSent).result = s.result := rfl
@[simp] theorem State.recordSent_nested : (s.recordSent).nested = s.nested := rfl
@[simp] theorem State.recordSent_opMd : (s.recordSent).opMd = s.opMd := rfl
@[simp] theorem State.recordSent_opOverride : (s.recordSent).opOverride = s.opOverride := rfl
@[simp] theorem State.recordSent_flushRead : (s.recordSent).flushRead = s.flushRead := rfl
@[simp] theorem State.recordSent_params : (s.recordSent).params = s.params := rfl
@[simp] theorem State.recordSent_env : (s.recordSent).env = s.env := rfl

/-! ### keepResponse -/

@[simp] theorem State.keepResponse_ctrl (m : MessageData) : (s.keepResponse m).ctrl = s.ctrl := rfl
@[simp] theorem State.keepResponse_cfgFeedback (m : MessageData) : (s.keepResponse m).cfgFeedback = s.cfgFeedback := rfl
@[simp] theorem State.keepResponse_cfgTimeout (m : MessageData) : (s.keepResponse m).cfgTimeout = s.cfgTimeout := rfl
@[simp] theorem State.keepResponse_lastSent (m : MessageData) : (s.keepResponse m).lastSent = s.lastSent := rfl
@[simp] theorem State.keepResponse_lastResp (m : MessageData) : (s.keepResponse m).lastResp = some m := rfl
@[simp] theorem State.keepResponse_ackSeen (m : MessageData) : (s.keepResponse m).ackSeen = (s.ackSeen || m.cmd == Config.ackCode) := rfl
@[simp] theorem State.keepResponse_fbuf (m : MessageData) : (s.keepResponse m).fbuf = s.fbuf := rfl
@[simp] theorem State.keepResponse_phase (m : MessageData) : (s.keepResponse m).phase = s.phase := rfl
@[simp] theorem State.keepResponse_rxb (m : MessageData) : (s.keepResponse m).rxb = s.rxb := rfl
@[simp] theorem State.keepResponse_rxbLen (m : MessageData) : (s.keepResponse m).rxbLen = s.rxbLen := rfl
@[simp] theorem State.keepResponse_rxbIdx (m : MessageData) : (s.keepResponse m).rxbIdx = s.rxbIdx := rfl
@[simp] theorem State.keepResponse_waitStart (m : MessageData) : (s.keepResponse m).waitStart = s.waitStart := rfl
@[simp] theorem State.keepResponse_waitAckreq (m : MessageData) : (s.keepResponse m).waitAckreq = s.waitAckreq := rfl
@[simp] theorem State.keepResponse_opTxFail (m : MessageData) : (s.keepResponse m).opTxFail = s.opTxFail := rfl
@[simp] theorem State.keepResponse_result (m : MessageData) : (s.keepResponse m).result = s.result := rfl
@[simp] theorem State.keepResponse_nested (m : MessageData) : (s.keepResponse m).nested = s.nested := rfl
@[simp] theorem State.keepResponse_opMd (m : MessageData) : (s.keepResponse m).opMd = s.opMd := rfl
@[simp] theorem State.keepResponse_opOverride (m : MessageData) : (s.keepResponse m).opOverride = s.opOverride := rfl
@[simp] theorem State.keepResponse_flushRead (m : MessageData) : (s.keepResponse m).flushRead = s.flushRead := rfl
@[simp] theorem State.keepResponse_params (m : MessageData) : (s.keepResponse m).params = s.params := rfl
@[simp] theorem State.keepResponse_env (m : MessageData) : (s.keepResponse m).env = s.env := rfl

/-! ### clearAck -/

@[simp] theorem State.clearAck_ctrl : (s.clearAck).ctrl = s.ctrl := rfl
@[simp] theorem State.clearAck_cfgFeedback : (s.clearAck).cfgFeedback = s.cfgFeedback := rfl
@[simp] theorem State.clearAck_cfgTimeout : (s.clearAck).cfgTimeout = s.cfgTimeout := rfl
@[simp] theorem State.clearAck_lastSent : (s.clearAck).lastSent = s.lastSent := rfl
@[simp] theorem State.clearAck_lastResp : (s.clearAck).lastResp = s.lastResp := rfl
@[simp] theorem State.clearAck_ackSeen : (s.clearAck).ackSeen = false := rfl
@[simp] theorem State.clearAck_fbuf : (s.clearAck).fbuf = s.fbuf := rfl
@[simp] theorem State.clearAck_phase : (s.clearAck).phase = s.phase := rfl
@[simp] theorem State.clearAck_rxb : (s.clearAck).rxb = s.rxb := rfl
@[simp] theorem State.clearAck_rxbLen : (s.clearAck).rxbLen = s.rxbLen := rfl
@[simp] theorem State.clearAck_rxbIdx : (s.clearAck).rxbIdx = s.rxbIdx := rfl
@[simp] theorem State.clearAck_waitStart : (s.clearAck).waitStart = s.waitStart := rfl
@[simp] theorem State.clearAck_waitAckreq : (s.clearAck).waitAckreq = s.waitAckreq := rfl
@[simp] theorem State.clearAck_opTxFail : (s.clearAck).opTxFail = s.opTxFail := rfl
@[simp] theorem State.clearAck_result : (s.clearAck).result = s.result := rfl
@[simp] theorem State.clearAck_nested : (s.clearAck).nested = s.nested := rfl
@[simp] theorem State.clearAck_opMd : (s.clearAck).opMd = s.opMd := rfl
@[simp] theorem State.clearAck_opOverride : (s.clearAck).opOverride = s.opOverride := rfl
@[simp] theorem State.clearAck_flushRead : (s.clearAck).flushRead = s.flushRead := rfl
@[simp] theorem State.clearAck_params : (s.clearAck).params = s.params := rfl
@[simp] theorem State.clearAck_env : (s.clearAck).env = s.env := rfl

/-! ### matchAck -/

@[simp] theorem State.matchAck_ctrl (c : Byte) : (s.matchAck c).ctrl = s.ctrl := rfl
@[simp] theorem State.matchAck_cfgFeedback (c : Byte) : (s.matchAck c).cfgFeedback = s.cfgFeedback := rfl
@[simp] theorem State.matchAck_cfgTimeout (c : Byte) : (s.matchAck c).cfgTimeout = s.cfgTimeout := rfl
@[simp] theorem State.matchAck_lastSent (c : Byte) : (s.matchAck c).lastSent = s.lastSent := rfl
@[simp] theorem State.matchAck_lastResp (c : Byte) : (s.matchAck c).lastResp = s.lastResp := rfl
@[simp] theorem State.matchAck_ackSeen (c : Byte) : (s.matchAck c).ackSeen = (s.ackSeen || c == Config.ackCode) := rfl
@[simp] theorem State.matchAck_fbuf (c : Byte) : (s.matchAck c).fbuf = s.fbuf := rfl
@[simp] theorem State.matchAck_phase (c : Byte) : (s.matchAck c).phase = s.phase := rfl
@[simp] theorem State.matchAck_rxb (c : Byte) : (s.matchAck c).rxb = s.rxb := rfl
@[simp] theorem State.matchAck_rxbLen (c : Byte) : (s.matchAck c).rxbLen = s.rxbLen := rfl
@[simp] theorem State.matchAck_rxbIdx (c : Byte) : (s.matchAck c).rxbIdx = s.rxbIdx := rfl
@[simp] theorem State.matchAck_waitStart (c : Byte) : (s.matchAck c).waitStart = s.waitStart := rfl
@[simp] theorem State.matchAck_waitAckreq (c : Byte) : (s.matchAck c).waitAckreq = s.waitAckreq := rfl
@[simp] theorem State.matchAck_opTxFail (c : Byte) : (s.matchAck c).opTxFail = s.opTxFail := rfl
@[simp] theorem State.matchAck_result (c : Byte) : (s.matchAck c).result = s.result := rfl
@[simp] theorem State.matchAck_nested (c : Byte) : (s.matchAck c).nested = s.nested := rfl
@[simp] theorem State.matchAck_opMd (c : Byte) : (s.matchAck c).opMd = s.opMd := rfl
@[simp] theorem State.matchAck_opOverride (c : Byte) : (s.matchAck c).opOverride = s.opOverride := rfl
@[simp] theorem State.matchAck_flushRead (c : Byte) : (s.matchAck c).flushRead = s.flushRead := rfl
@[simp] theorem State.matchAck_params (c : Byte) : (s.matchAck c).params = s.params := rfl
@[simp] theorem State.matchAck_env (c : Byte) : (s.matchAck c).env = s.env := rfl

/-! ### endOperation -/

@[simp] theorem State.endOperation_ctrl (r : Result) : (s.endOperation r).ctrl = .idle := rfl
@[simp] theorem State.endOperation_cfgFeedback (r : Result) : (s.endOperation r).cfgFeedback = s.cfgFeedback := rfl
@[simp] theorem State.endOperation_cfgTimeout (r : Result) : (s.endOperation r).cfgTimeout = s.cfgTimeout := rfl
@[simp] theorem State.endOperation_lastSent (r : Result) : (s.endOperation r).lastSent = s.lastSent := rfl
@[simp] theorem State.endOperation_lastResp (r : Result) : (s.endOperation r).lastResp = s.lastResp := rfl
@[simp] theorem State.endOperation_ackSeen (r : Result) : (s.endOperation r).ackSeen = s.ackSeen := rfl
@[simp] theorem State.endOperation_fbuf (r : Result) : (s.endOperation r).fbuf = s.fbuf := rfl
@[simp] theorem State.endOperation_phase (r : Result) : (s.endOperation r).phase = s.phase := rfl
@[simp] theorem State.endOperation_rxb (r : Result) : (s.endOperation r).rxb = s.rxb := rfl
@[simp] theorem State.endOperation_rxbLen (r : Result) : (s.endOperation r).rxbLen = 0 := rfl
@[simp] theorem State.endOperation_rxbIdx (r : Result) : (s.endOperation r).rxbIdx = 0 := rfl
@[simp] theorem State.endOperation_waitStart (r : Result) : (s.endOperation r).waitStart = s.waitStart := rfl
@[simp] theorem State.endOperation_waitAckreq (r : Result) : (s.endOperation r).waitAckreq = s.waitAckreq := rfl
@[simp] theorem State.endOperation_opTxFail (r : Result) : (s.endOperation r).opTxFail = s.opTxFail := rfl
@[simp] theorem State.endOperation_result (r : Result) : (s.endOperation r).result = some r := rfl
@[simp] theorem State.endOperation_nested (r : Result) : (s.endOperation r).nested = s.nested := rfl
@[simp] theorem State.endOperation_opMd (r : Result) : (s.endOperation r).opMd = s.opMd := rfl
@[simp] theorem State.endOperation_opOverride (r : Result) : (s.endOperation r).opOverride = s.opOverride := rfl
@[simp] theorem State.endOperation_flushRead (r : Result) : (s.endOperation r).flushRead = s.flushRead := rfl
@[simp] theorem State.endOperation_params (r : Result) : (s.endOperation r).params = s.params := rfl
@[simp] theorem State.endOperation_channel (r : Result) : (s.endOperation r).env.channel = s.env.channel := rfl
@[simp] theorem State.endOperation_hostReply (r : Result) : (s.endOperation r).env.hostReply = some r := rfl
@[simp] theorem State.endOperation_polls (r : Result) : (s.endOperation r).env.polls = s.env.polls := rfl
@[simp] theorem State.endOperation_reads (r : Result) : (s.endOperation r).env.reads = s.env.reads := rfl
@[simp] theorem State.endOperation_writes (r : Result) : (s.endOperation r).env.writes = s.env.writes := rfl
@[simp] theorem State.endOperation_ticks (r : Result) : (s.endOperation r).env.ticks = s.env.ticks := rfl
@[simp] theorem State.endOperation_resets (r : Result) : (s.endOperation r).env.resets = s.env.resets := rfl
@[simp] theorem State.endOperation_txStream (r : Result) : (s.endOperation r).env.txStream = s.env.txStream := rfl
@[simp] theorem State.endOperation_now (r : Result) : (s.endOperation r).env.now = s.env.now := rfl
@[simp] theorem State.endOperation_draws (r : Result) : (s.endOperation r).env.draws = s.env.draws := rfl

/-! ### replyBadParameter -/

@[simp] theorem State.replyBadParameter_ctrl : (s.replyBadParameter).ctrl = s.ctrl := rfl
@[simp] theorem State.replyBadParameter_cfgFeedback : (s.replyBadParameter).cfgFeedback = s.cfgFeedback := rfl
@[simp] theorem State.replyBadParameter_cfgTimeout : (s.replyBadParameter).cfgTimeout = s.cfgTimeout := rfl
@[simp] theorem State.replyBadParameter_lastSent : (s.replyBadParameter).lastSent = s.lastSent := rfl
@[simp] theorem State.replyBadParameter_lastResp : (s.replyBadParameter).lastResp = s.lastResp := rfl
@[simp] theorem State.replyBadParameter_ackSeen : (s.replyBadParameter).ackSeen = s.ackSeen := rfl
@[simp] theorem State.replyBadParameter_fbuf : (s.replyBadParameter).fbuf = s.fbuf := rfl
@[simp] theorem State.replyBadParameter_phase : (s.replyBadParameter).phase = s.phase := rfl
@[simp] theorem State.replyBadParameter_rxb : (s.replyBadParameter).rxb = s.rxb := rfl
@[simp] theorem State.replyBadParameter_rxbLen : (s.replyBadParameter).rxbLen = s.rxbLen := rfl
@[simp] theorem State.replyBadParameter_rxbIdx : (s.replyBadParameter).rxbIdx = s.rxbIdx := rfl
@[simp] theorem State.replyBadParameter_waitStart : (s.replyBadParameter).waitStart = s.waitStart := rfl
@[simp] theorem State.replyBadParameter_waitAckreq : (s.replyBadParameter).waitAckreq = s.waitAckreq := rfl
@[simp] theorem State.replyBadParameter_opTxFail : (s.replyBadParameter).opTxFail = s.opTxFail := rfl
@[simp] theorem State.replyBadParameter_result : (s.replyBadParameter).result = s.result := rfl
@[simp] theorem State.replyBadParameter_nested : (s.replyBadParameter).nested = s.nested := rfl
@[simp] theorem State.replyBadParameter_opMd : (s.replyBadParameter).opMd = s.opMd := rfl
@[simp] theorem State.replyBadParameter_opOverride : (s.replyBadParameter).opOverride = s.opOverride := rfl
@[simp] theorem State.replyBadParameter_flushRead : (s.replyBadParameter).flushRead = s.flushRead := rfl
@[simp] theorem State.replyBadParameter_params : (s.replyBadParameter).params = s.params := rfl
@[simp] theorem State.replyBadParameter_channel : (s.replyBadParameter).env.channel = s.env.channel := rfl
@[simp] theorem State.replyBadParameter_hostReply : (s.replyBadParameter).env.hostReply = some .badParameter := rfl
@[simp] theorem State.replyBadParameter_polls : (s.replyBadParameter).env.polls = s.env.polls := rfl
@[simp] theorem State.replyBadParameter_reads : (s.replyBadParameter).env.reads = s.env.reads := rfl
@[simp] theorem State.replyBadParameter_writes : (s.replyBadParameter).env.writes = s.env.writes := rfl
@[simp] theorem State.replyBadParameter_ticks : (s.replyBadParameter).env.ticks = s.env.ticks := rfl
@[simp] theorem State.replyBadParameter_resets : (s.replyBadParameter).env.resets = s.env.resets := rfl
@[simp] theorem State.replyBadParameter_txStream : (s.replyBadParameter).env.txStream = s.env.txStream := rfl
@[simp] theorem State.replyBadParameter_now : (s.replyBadParameter).env.now = s.env.now := rfl
@[simp] theorem State.replyBadParameter_draws : (s.replyBadParameter).env.draws = s.env.draws := rfl

/-! ### startSend -/

@[simp] theorem State.startSend_ctrl (md : MessageData) : (s.startSend md).ctrl = .tx := rfl
@[simp] theorem State.startSend_cfgFeedback (md : MessageData) : (s.startSend md).cfgFeedback = s.cfgFeedback := rfl
@[simp] theorem State.startSend_cfgTimeout (md : MessageData) : (s.startSend md).cfgTimeout = s.cfgTimeout := rfl
@[simp] theorem State.startSend_lastSent (md : MessageData) : (s.startSend md).lastSent = s.lastSent := rfl
@[simp] theorem State.startSend_lastResp (md : MessageData) : (s.startSend md).lastResp = s.lastResp := rfl
@[simp] theorem State.startSend_ackSeen (md : MessageData) : (s.startSend md).ackSeen = s.ackSeen := rfl
@[simp] theorem State.startSend_fbuf (md : MessageData) : (s.startSend md).fbuf = s.fbuf := rfl
@[simp] theorem State.startSend_phase (md : MessageData) : (s.startSend md).phase = s.phase := rfl
@[simp] theorem State.startSend_rxb (md : MessageData) : (s.startSend md).rxb = s.rxb := rfl
@[simp] theorem State.startSend_rxbLen (md : MessageData) : (s.startSend md).rxbLen = s.rxbLen := rfl
@[simp] theorem State.startSend_rxbIdx (md : MessageData) : (s.startSend md).rxbIdx = s.rxbIdx := rfl
@[simp] theorem State.startSend_waitStart (md : MessageData) : (s.startSend md).waitStart = s.waitStart := rfl
@[simp] theorem State.startSend_waitAckreq (md : MessageData) : (s.startSend md).waitAckreq = s.waitAckreq := rfl
@[simp] theorem State.startSend_opTxFail (md : MessageData) : (s.startSend md).opTxFail = false := rfl
@[simp] theorem State.startSend_result (md : MessageData) : (s.startSend md).result = s.result := rfl
@[simp] theorem State.startSend_nested (md : MessageData) : (s.startSend md).nested = false := rfl
@[simp] theorem State.startSend_opMd (md : MessageData) : (s.startSend md).opMd = md := rfl
@[simp] theorem State.startSend_opOverride (md : MessageData) : (s.startSend md).opOverride = s.opOverride := rfl
@[simp] theorem State.startSend_flushRead (md : MessageData) : (s.startSend md).flushRead = s.flushRead := rfl
@[simp] theorem State.startSend_params (md : MessageData) : (s.startSend md).params = s.params := rfl
@[simp] theorem State.startSend_env (md : MessageData) : (s.startSend md).env = s.env := rfl

/-! ### startInit -/

@[simp] theorem State.startInit_ctrl (fb : Bool) (tm : Nat) (ov : Option Nat) : (s.startInit fb tm ov).ctrl = .initFlush1 := rfl
@[simp] theorem State.startInit_cfgFeedback (fb : Bool) (tm : Nat) (ov : Option Nat) : (s.startInit fb tm ov).cfgFeedback = fb := rfl
@[simp] theorem State.startInit_cfgTimeout (fb : Bool) (tm : Nat) (ov : Option Nat) : (s.startInit fb tm ov).cfgTimeout = tm := rfl
@[simp] theorem State.startInit_lastSent (fb : Bool) (tm : Nat) (ov : Option Nat) : (s.startInit fb tm ov).lastSent = none := rfl
@[simp] theorem State.startInit_lastResp (fb : Bool) (tm : Nat) (ov : Option Nat) : (s.startInit fb tm ov).lastResp = none := rfl
@[simp] theorem State.startInit_ackSeen (fb : Bool) (tm : Nat) (ov : Option Nat) : (s.startInit fb tm ov).ackSeen = false := rfl
@[simp] theorem State.startInit_fbuf (fb : Bool) (tm : Nat) (ov : Option Nat) : (s.startInit fb tm ov).fbuf = s.fbuf := rfl
@[simp] theorem State.startInit_phase (fb : Bool) (tm : Nat) (ov : Option Nat) : (s.startInit fb tm ov).phase = .awaitingStart := rfl
@[simp] theorem State.startInit_rxb (fb : Bool) (tm : Nat) (ov : Option Nat) : (s.startInit fb tm ov).rxb = s.rxb := rfl
@[simp] theorem State.startInit_rxbLen (fb : Bool) (tm : Nat) (ov : Option Nat) : (s.startInit fb tm ov).rxbLen = 0 := rfl
@[simp] theorem State.startInit_rxbIdx (fb : Bool) (tm : Nat) (ov : Option Nat) : (s.startInit fb tm ov).rxbIdx = 0 := rfl
@[simp] theorem State.startInit_waitStart (fb : Bool) (tm : Nat) (ov : Option Nat) : (s.startInit fb tm ov).waitStart = s.waitStart := rfl
@[simp] theorem State.startInit_waitAckreq (fb : Bool) (tm : Nat) (ov : Option Nat) : (s.startInit fb tm ov).waitAckreq = s.waitAckreq := rfl
@[simp] theorem State.startInit_opTxFail (fb : Bool) (tm : Nat) (ov : Option Nat) : (s.startInit fb tm ov).opTxFail = s.opTxFail := rfl
@[simp] theorem State.startInit_result (fb : Bool) (tm : Nat) (ov : Option Nat) : (s.startInit fb tm ov).result = s.result := rfl
@[simp] theorem State.startInit_nested (fb : Bool) (tm : Nat) (ov : Option Nat) : (s.startInit fb tm ov).nested = false := rfl
@[simp] theorem State.startInit_opMd (fb : Bool) (tm : Nat) (ov : Option Nat) : (s.startInit fb tm ov).opMd = s.opMd := rfl
@[simp] theorem State.startInit_opOverride (fb : Bool) (tm : Nat) (ov : Option Nat) : (s.startInit fb tm ov).opOverride = ov := rfl
@[simp] theorem State.startInit_flushRead (fb : Bool) (tm : Nat) (ov : Option Nat) : (s.startInit fb tm ov).flushRead = false := rfl
@[simp] theorem State.startInit_params (fb : Bool) (tm : Nat) (ov : Option Nat) : (s.startInit fb tm ov).params = s.params := rfl
@[simp] theorem State.startInit_env (fb : Bool) (tm : Nat) (ov : Option Nat) : (s.startInit fb tm ov).env = s.env := rfl

/-! ### startResetSend -/

@[simp] theorem State.startResetSend_ctrl : (s.startResetSend).ctrl = .initSend := rfl
@[simp] theorem State.startResetSend_cfgFeedback : (s.startResetSend).cfgFeedback = s.cfgFeedback := rfl
@[simp] theorem State.startResetSend_cfgTimeout : (s.startResetSend).cfgTimeout = s.cfgTimeout := rfl
@[simp] theorem State.startResetSend_lastSent : (s.startResetSend).lastSent = s.lastSent := rfl
@[simp] theorem State.startResetSend_lastResp : (s.startResetSend).lastResp = s.lastResp := rfl
@[simp] theorem State.startResetSend_ackSeen : (s.startResetSend).ackSeen = s.ackSeen := rfl
@[simp] theorem State.startResetSend_fbuf : (s.startResetSend).fbuf = s.fbuf := rfl
@[simp] theorem State.startResetSend_phase : (s.startResetSend).phase = s.phase := rfl
@[simp] theorem State.startResetSend_rxb : (s.startResetSend).rxb = s.rxb := rfl
@[simp] theorem State.startResetSend_rxbLen : (s.startResetSend).rxbLen = s.rxbLen := rfl
@[simp] theorem State.startResetSend_rxbIdx : (s.startResetSend).rxbIdx = s.rxbIdx := rfl
@[simp] theorem State.startResetSend_waitStart : (s.startResetSend).waitStart = s.waitStart := rfl
@[simp] theorem State.startResetSend_waitAckreq : (s.startResetSend).waitAckreq = s.waitAckreq := rfl
@[simp] theorem State.startResetSend_opTxFail : (s.startResetSend).opTxFail = false := rfl
@[simp] theorem State.startResetSend_result : (s.startResetSend).result = s.result := rfl
@[simp] theorem State.startResetSend_nested : (s.startResetSend).nested = true := rfl
@[simp] theorem State.startResetSend_opMd : (s.startResetSend).opMd = resetMessage s.params := rfl
@[simp] theorem State.startResetSend_opOverride : (s.startResetSend).opOverride = s.opOverride := rfl
@[simp] theorem State.startResetSend_flushRead : (s.startResetSend).flushRead = false := rfl
@[simp] theorem State.startResetSend_params : (s.startResetSend).params = s.params := rfl
@[simp] theorem State.startResetSend_env : (s.startResetSend).env = s.env := rfl

end Sys2Proof.Machine
end

