-- ==== Sys2Proof/Laws/Frames.lean ====
section
/-! SUPPORT. What each shared operation and each step of the session engine leaves alone: one lemma per register. -/

namespace Sys2Proof.Machine

variable (s : State)

/-! ### State.returnToInit -/

@[simp] theorem State.returnToInit_cfgFeedback (r : Result) : (s.returnToInit r).cfgFeedback = s.cfgFeedback := by unfold State.returnToInit; (repeat' split) <;> rfl
@[simp] theorem State.returnToInit_cfgTimeout (r : Result) : (s.returnToInit r).cfgTimeout = s.cfgTimeout := by unfold State.returnToInit; (repeat' split) <;> rfl
@[simp] theorem State.returnToInit_lastSent (r : Result) : (s.returnToInit r).lastSent = s.lastSent := by unfold State.returnToInit; (repeat' split) <;> rfl
@[simp] theorem State.returnToInit_lastResp (r : Result) : (s.returnToInit r).lastResp = s.lastResp := by unfold State.returnToInit; (repeat' split) <;> rfl
@[simp] theorem State.returnToInit_ackSeen (r : Result) : (s.returnToInit r).ackSeen = s.ackSeen := by unfold State.returnToInit; (repeat' split) <;> rfl
@[simp] theorem State.returnToInit_fbuf (r : Result) : (s.returnToInit r).fbuf = s.fbuf := by unfold State.returnToInit; (repeat' split) <;> rfl
@[simp] theorem State.returnToInit_phase (r : Result) : (s.returnToInit r).phase = s.phase := by unfold State.returnToInit; (repeat' split) <;> rfl
@[simp] theorem State.returnToInit_rxb (r : Result) : (s.returnToInit r).rxb = s.rxb := by unfold State.returnToInit; (repeat' split) <;> rfl
@[simp] theorem State.returnToInit_waitStart (r : Result) : (s.returnToInit r).waitStart = s.waitStart := by unfold State.returnToInit; (repeat' split) <;> rfl
@[simp] theorem State.returnToInit_waitAckreq (r : Result) : (s.returnToInit r).waitAckreq = s.waitAckreq := by unfold State.returnToInit; (repeat' split) <;> rfl
@[simp] theorem State.returnToInit_opTxFail (r : Result) : (s.returnToInit r).opTxFail = s.opTxFail := by unfold State.returnToInit; (repeat' split) <;> rfl
@[simp] theorem State.returnToInit_opMd (r : Result) : (s.returnToInit r).opMd = s.opMd := by unfold State.returnToInit; (repeat' split) <;> rfl
@[simp] theorem State.returnToInit_opOverride (r : Result) : (s.returnToInit r).opOverride = s.opOverride := by unfold State.returnToInit; (repeat' split) <;> rfl
@[simp] theorem State.returnToInit_flushRead (r : Result) : (s.returnToInit r).flushRead = s.flushRead := by unfold State.returnToInit; (repeat' split) <;> rfl
@[simp] theorem State.returnToInit_params (r : Result) : (s.returnToInit r).params = s.params := by unfold State.returnToInit; (repeat' split) <;> rfl
@[simp] theorem State.returnToInit_channel (r : Result) : (s.returnToInit r).env.channel = s.env.channel := by unfold State.returnToInit; (repeat' split) <;> rfl
@[simp] theorem State.returnToInit_polls (r : Result) : (s.returnToInit r).env.polls = s.env.polls := by unfold State.returnToInit; (repeat' split) <;> rfl
@[simp] theorem State.returnToInit_reads (r : Result) : (s.returnToInit r).env.reads = s.env.reads := by unfold State.returnToInit; (repeat' split) <;> rfl
@[simp] theorem State.returnToInit_writes (r : Result) : (s.returnToInit r).env.writes = s.env.writes := by unfold State.returnToInit; (repeat' split) <;> rfl
@[simp] theorem State.returnToInit_ticks (r : Result) : (s.returnToInit r).env.ticks = s.env.ticks := by unfold State.returnToInit; (repeat' split) <;> rfl
@[simp] theorem State.returnToInit_resets (r : Result) : (s.returnToInit r).env.resets = s.env.resets := by unfold State.returnToInit; (repeat' split) <;> rfl
@[simp] theorem State.returnToInit_txStream (r : Result) : (s.returnToInit r).env.txStream = s.env.txStream := by unfold State.returnToInit; (repeat' split) <;> rfl
@[simp] theorem State.returnToInit_now (r : Result) : (s.returnToInit r).env.now = s.env.now := by unfold State.returnToInit; (repeat' split) <;> rfl
@[simp] theorem State.returnToInit_draws (r : Result) : (s.returnToInit r).env.draws = s.env.draws := by unfold State.returnToInit; (repeat' split) <;> rfl

/-! ### State.finish -/

@[simp] theorem State.finish_cfgFeedback (r : Result) : (s.finish r).cfgFeedback = s.cfgFeedback := by unfold State.finish; (repeat' split) <;> simp
@[simp] theorem State.finish_cfgTimeout (r : Result) : (s.finish r).cfgTimeout = s.cfgTimeout := by unfold State.finish; (repeat' split) <;> simp
@[simp] theorem State.finish_lastSent (r : Result) : (s.finish r).lastSent = s.lastSent := by unfold State.finish; (repeat' split) <;> simp
@[simp] theorem State.finish_lastResp (r : Result) : (s.finish r).lastResp = s.lastResp := by unfold State.finish; (repeat' split) <;> simp
@[simp] theorem State.finish_ackSeen (r : Result) : (s.finish r).ackSeen = s.ackSeen := by unfold State.finish; (repeat' split) <;> simp
@[simp] theorem State.finish_fbuf (r : Result) : (s.finish r).fbuf = s.fbuf := by unfold State.finish; (repeat' split) <;> simp
@[simp] theorem State.finish_phase (r : Result) : (s.finish r).phase = s.phase := by unfold State.finish; (repeat' split) <;> simp
@[simp] theorem State.finish_rxb (r : Result) : (s.finish r).rxb = s.rxb := by unfold State.finish; (repeat' split) <;> simp
@[simp] theorem State.finish_waitStart (r : Result) : (s.finish r).waitStart = s.waitStart := by unfold State.finish; (repeat' split) <;> simp
@[simp] theorem State.finish_waitAckreq (r : Result) : (s.finish r).waitAckreq = s.waitAckreq := by unfold State.finish; (repeat' split) <;> simp
@[simp] theorem State.finish_opTxFail (r : Result) : (s.finish r).opTxFail = s.opTxFail := by unfold State.finish; (repeat' split) <;> simp
@[simp] theorem State.finish_opMd (r : Result) : (s.finish r).opMd = s.opMd := by unfold State.finish; (repeat' split) <;> simp
@[simp] theorem State.finish_opOverride (r : Result) : (s.finish r).opOverride = s.opOverride := by unfold State.finish; (repeat' split) <;> simp
@[simp] theorem State.finish_flushRead (r : Result) : (s.finish r).flushRead = s.flushRead := by unfold State.finish; (repeat' split) <;> simp
@[simp] theorem State.finish_params (r : Result) : (s.finish r).params = s.params := by unfold State.finish; (repeat' split) <;> simp
@[simp] theorem State.finish_channel (r : Result) : (s.finish r).env.channel = s.env.channel := by unfold State.finish; (repeat' split) <;> simp
@[simp] theorem State.finish_polls (r : Result) : (s.finish r).env.polls = s.env.polls := by unfold State.finish; (repeat' split) <;> simp
@[simp] theorem State.finish_reads (r : Result) : (s.finish r).env.reads = s.env.reads := by unfold State.finish; (repeat' split) <;> simp
@[simp] theorem State.finish_writes (r : Result) : (s.finish r).env.writes = s.env.writes := by unfold State.finish; (repeat' split) <;> simp
@[simp] theorem State.finish_ticks (r : Result) : (s.finish r).env.ticks = s.env.ticks := by unfold State.finish; (repeat' split) <;> simp
@[simp] theorem State.finish_resets (r : Result) : (s.finish r).env.resets = s.env.resets := by unfold State.finish; (repeat' split) <;> simp
@[simp] theorem State.finish_txStream (r : Result) : (s.finish r).env.txStream = s.env.txStream := by unfold State.finish; (repeat' split) <;> simp
@[simp] theorem State.finish_now (r : Result) : (s.finish r).env.now = s.env.now := by unfold State.finish; (repeat' split) <;> simp
@[simp] theorem State.finish_draws (r : Result) : (s.finish r).env.draws = s.env.draws := by unfold State.finish; (repeat' split) <;> simp

/-! ### State.startWait -/

@[simp] theorem State.startWait_cfgFeedback (q : Bool) : (s.startWait q).cfgFeedback = s.cfgFeedback := by simp [State.startWait]
@[simp] theorem State.startWait_cfgTimeout (q : Bool) : (s.startWait q).cfgTimeout = s.cfgTimeout := by simp [State.startWait]
@[simp] theorem State.startWait_lastSent (q : Bool) : (s.startWait q).lastSent = s.lastSent := by simp [State.startWait]
@[simp] theorem State.startWait_lastResp (q : Bool) : (s.startWait q).lastResp = s.lastResp := by simp [State.startWait]
@[simp] theorem State.startWait_ackSeen (q : Bool) : (s.startWait q).ackSeen = s.ackSeen := by simp [State.startWait]
@[simp] theorem State.startWait_fbuf (q : Bool) : (s.startWait q).fbuf = s.fbuf := by simp [State.startWait]
@[simp] theorem State.startWait_phase (q : Bool) : (s.startWait q).phase = s.phase := by simp [State.startWait]
@[simp] theorem State.startWait_rxb (q : Bool) : (s.startWait q).rxb = s.rxb := by simp [State.startWait]
@[simp] theorem State.startWait_rxbLen (q : Bool) : (s.startWait q).rxbLen = s.rxbLen := by simp [State.startWait]
@[simp] theorem State.startWait_rxbIdx (q : Bool) : (s.startWait q).rxbIdx = s.rxbIdx := by simp [State.startWait]
@[simp] theorem State.startWait_opTxFail (q : Bool) : (s.startWait q).opTxFail = s.opTxFail := by simp [State.startWait]
@[simp] theorem State.startWait_result (q : Bool) : (s.startWait q).result = s.result := by simp [State.startWait]
@[simp] theorem State.startWait_nested (q : Bool) : (s.startWait q).nested = s.nested := by simp [State.startWait]
@[simp] theorem State.startWait_opMd (q : Bool) : (s.startWait q).opMd = s.opMd := by simp [State.startWait]
@[simp] theorem State.startWait_opOverride (q : Bool) : (s.startWait q).opOverride = s.opOverride := by simp [State.startWait]
@[simp] theorem State.startWait_flushRead (q : Bool) : (s.startWait q).flushRead = s.flushRead := by simp [State.startWait]
@[simp] theorem State.startWait_params (q : Bool) : (s.startWait q).params = s.params := by simp [State.startWait]
@[simp] theorem State.startWait_channel (q : Bool) : (s.startWait q).env.channel = s.env.channel := by simp [State.startWait]
@[simp] theorem State.startWait_hostReply (q : Bool) : (s.startWait q).env.hostReply = s.env.hostReply := by simp [State.startWait]
@[simp] theorem State.startWait_polls (q : Bool) : (s.startWait q).env.polls = s.env.polls := by simp [State.startWait]
@[simp] theorem State.startWait_reads (q : Bool) : (s.startWait q).env.reads = s.env.reads := by simp [State.startWait]
@[simp] theorem State.startWait_writes (q : Bool) : (s.startWait q).env.writes = s.env.writes := by simp [State.startWait]
@[simp] theorem State.startWait_resets (q : Bool) : (s.startWait q).env.resets = s.env.resets := by simp [State.startWait]
@[simp] theorem State.startWait_txStream (q : Bool) : (s.startWait q).env.txStream = s.env.txStream := by simp [State.startWait]
@[simp] theorem State.startWait_ctrl (q : Bool) : (s.startWait q).ctrl = .waitPoll := rfl
@[simp] theorem State.startWait_waitAckreq (q : Bool) : (s.startWait q).waitAckreq = q := rfl
@[simp] theorem State.startWait_waitStart (q : Bool) : (s.startWait q).waitStart = (s.startWait q).env.now := rfl
@[simp] theorem State.startWait_now (q : Bool) : (s.startWait q).env.now = s.env.now + s.tick := by simp [State.startWait]

/-! ### State.startNofb -/

@[simp] theorem State.startNofb_cfgFeedback : (s.startNofb).cfgFeedback = s.cfgFeedback := by unfold State.startNofb; (repeat' split) <;> simp
@[simp] theorem State.startNofb_cfgTimeout : (s.startNofb).cfgTimeout = s.cfgTimeout := by unfold State.startNofb; (repeat' split) <;> simp
@[simp] theorem State.startNofb_lastSent : (s.startNofb).lastSent = s.lastSent := by unfold State.startNofb; (repeat' split) <;> simp
@[simp] theorem State.startNofb_lastResp : (s.startNofb).lastResp = s.lastResp := by unfold State.startNofb; (repeat' split) <;> simp
@[simp] theorem State.startNofb_ackSeen : (s.startNofb).ackSeen = s.ackSeen := by unfold State.startNofb; (repeat' split) <;> simp
@[simp] theorem State.startNofb_fbuf : (s.startNofb).fbuf = s.fbuf := by unfold State.startNofb; (repeat' split) <;> simp
@[simp] theorem State.startNofb_phase : (s.startNofb).phase = s.phase := by unfold State.startNofb; (repeat' split) <;> simp
@[simp] theorem State.startNofb_rxb : (s.startNofb).rxb = s.rxb := by unfold State.startNofb; (repeat' split) <;> simp
@[simp] theorem State.startNofb_rxbLen : (s.startNofb).rxbLen = s.rxbLen := by unfold State.startNofb; (repeat' split) <;> simp
@[simp] theorem State.startNofb_rxbIdx : (s.startNofb).rxbIdx = s.rxbIdx := by unfold State.startNofb; (repeat' split) <;> simp
@[simp] theorem State.startNofb_waitStart : (s.startNofb).waitStart = s.waitStart := by unfold State.startNofb; (repeat' split) <;> simp
@[simp] theorem State.startNofb_waitAckreq : (s.startNofb).waitAckreq = s.waitAckreq := by unfold State.startNofb; (repeat' split) <;> simp
@[simp] theorem State.startNofb_opTxFail : (s.startNofb).opTxFail = s.opTxFail := by unfold State.startNofb; (repeat' split) <;> simp
@[simp] theorem State.startNofb_result : (s.startNofb).result = s.result := by unfold State.startNofb; (repeat' split) <;> simp
@[simp] theorem State.startNofb_nested : (s.startNofb).nested = s.nested := by unfold State.startNofb; (repeat' split) <;> simp
@[simp] theorem State.startNofb_opMd : (s.startNofb).opMd = s.opMd := by unfold State.startNofb; (repeat' split) <;> simp
@[simp] theorem State.startNofb_opOverride : (s.startNofb).opOverride = s.opOverride := by unfold State.startNofb; (repeat' split) <;> simp
@[simp] theorem State.startNofb_flushRead : (s.startNofb).flushRead = s.flushRead := by unfold State.startNofb; (repeat' split) <;> simp
@[simp] theorem State.startNofb_params : (s.startNofb).params = s.params := by unfold State.startNofb; (repeat' split) <;> simp
@[simp] theorem State.startNofb_env : (s.startNofb).env = s.env := by unfold State.startNofb; (repeat' split) <;> simp

/-! ### State.choosePath -/

@[simp] theorem State.choosePath_cfgFeedback : (s.choosePath).cfgFeedback = s.cfgFeedback := by unfold State.choosePath; (repeat' split) <;> simp
@[simp] theorem State.choosePath_cfgTimeout : (s.choosePath).cfgTimeout = s.cfgTimeout := by unfold State.choosePath; (repeat' split) <;> simp
@[simp] theorem State.choosePath_lastSent : (s.choosePath).lastSent = s.lastSent := by unfold State.choosePath; (repeat' split) <;> simp
@[simp] theorem State.choosePath_lastResp : (s.choosePath).lastResp = s.lastResp := by unfold State.choosePath; (repeat' split) <;> simp
@[simp] theorem State.choosePath_ackSeen : (s.choosePath).ackSeen = s.ackSeen := by unfold State.choosePath; (repeat' split) <;> simp
@[simp] theorem State.choosePath_fbuf : (s.choosePath).fbuf = s.fbuf := by unfold State.choosePath; (repeat' split) <;> simp
@[simp] theorem State.choosePath_phase : (s.choosePath).phase = s.phase := by unfold State.choosePath; (repeat' split) <;> simp
@[simp] theorem State.choosePath_rxb : (s.choosePath).rxb = s.rxb := by unfold State.choosePath; (repeat' split) <;> simp
@[simp] theorem State.choosePath_rxbLen : (s.choosePath).rxbLen = s.rxbLen := by unfold State.choosePath; (repeat' split) <;> simp
@[simp] theorem State.choosePath_rxbIdx : (s.choosePath).rxbIdx = s.rxbIdx := by unfold State.choosePath; (repeat' split) <;> simp
@[simp] theorem State.choosePath_opTxFail : (s.choosePath).opTxFail = s.opTxFail := by unfold State.choosePath; (repeat' split) <;> simp
@[simp] theorem State.choosePath_result : (s.choosePath).result = s.result := by unfold State.choosePath; (repeat' split) <;> simp
@[simp] theorem State.choosePath_nested : (s.choosePath).nested = s.nested := by unfold State.choosePath; (repeat' split) <;> simp
@[simp] theorem State.choosePath_opMd : (s.choosePath).opMd = s.opMd := by unfold State.choosePath; (repeat' split) <;> simp
@[simp] theorem State.choosePath_opOverride : (s.choosePath).opOverride = s.opOverride := by unfold State.choosePath; (repeat' split) <;> simp
@[simp] theorem State.choosePath_flushRead : (s.choosePath).flushRead = s.flushRead := by unfold State.choosePath; (repeat' split) <;> simp
@[simp] theorem State.choosePath_params : (s.choosePath).params = s.params := by unfold State.choosePath; (repeat' split) <;> simp
@[simp] theorem State.choosePath_channel : (s.choosePath).env.channel = s.env.channel := by unfold State.choosePath; (repeat' split) <;> simp
@[simp] theorem State.choosePath_hostReply : (s.choosePath).env.hostReply = s.env.hostReply := by unfold State.choosePath; (repeat' split) <;> simp
@[simp] theorem State.choosePath_polls : (s.choosePath).env.polls = s.env.polls := by unfold State.choosePath; (repeat' split) <;> simp
@[simp] theorem State.choosePath_reads : (s.choosePath).env.reads = s.env.reads := by unfold State.choosePath; (repeat' split) <;> simp
@[simp] theorem State.choosePath_writes : (s.choosePath).env.writes = s.env.writes := by unfold State.choosePath; (repeat' split) <;> simp
@[simp] theorem State.choosePath_resets : (s.choosePath).env.resets = s.env.resets := by unfold State.choosePath; (repeat' split) <;> simp
@[simp] theorem State.choosePath_txStream : (s.choosePath).env.txStream = s.env.txStream := by unfold State.choosePath; (repeat' split) <;> simp

/-! ### State.afterFlush -/

@[simp] theorem State.afterFlush_cfgFeedback : (s.afterFlush).cfgFeedback = s.cfgFeedback := by unfold State.afterFlush; (repeat' split) <;> simp
@[simp] theorem State.afterFlush_cfgTimeout : (s.afterFlush).cfgTimeout = s.cfgTimeout := by unfold State.afterFlush; (repeat' split) <;> simp
@[simp] theorem State.afterFlush_lastSent : (s.afterFlush).lastSent = s.lastSent := by unfold State.afterFlush; (repeat' split) <;> simp
@[simp] theorem State.afterFlush_lastResp : (s.afterFlush).lastResp = s.lastResp := by unfold State.afterFlush; (repeat' split) <;> simp
@[simp] theorem State.afterFlush_ackSeen : (s.afterFlush).ackSeen = s.ackSeen := by unfold State.afterFlush; (repeat' split) <;> simp
@[simp] theorem State.afterFlush_fbuf : (s.afterFlush).fbuf = s.fbuf := by unfold State.afterFlush; (repeat' split) <;> simp
@[simp] theorem State.afterFlush_phase : (s.afterFlush).phase = s.phase := by unfold State.afterFlush; (repeat' split) <;> simp
@[simp] theorem State.afterFlush_rxb : (s.afterFlush).rxb = s.rxb := by unfold State.afterFlush; (repeat' split) <;> simp
@[simp] theorem State.afterFlush_waitStart : (s.afterFlush).waitStart = s.waitStart := by unfold State.afterFlush; (repeat' split) <;> simp
@[simp] theorem State.afterFlush_waitAckreq : (s.afterFlush).waitAckreq = s.waitAckreq := by unfold State.afterFlush; (repeat' split) <;> simp
@[simp] theorem State.afterFlush_opOverride : (s.afterFlush).opOverride = s.opOverride := by unfold State.afterFlush; (repeat' split) <;> simp
@[simp] theorem State.afterFlush_params : (s.afterFlush).params = s.params := by unfold State.afterFlush; (repeat' split) <;> simp
@[simp] theorem State.afterFlush_channel : (s.afterFlush).env.channel = s.env.channel := by unfold State.afterFlush; (repeat' split) <;> simp
@[simp] theorem State.afterFlush_polls : (s.afterFlush).env.polls = s.env.polls := by unfold State.afterFlush; (repeat' split) <;> simp
@[simp] theorem State.afterFlush_reads : (s.afterFlush).env.reads = s.env.reads := by unfold State.afterFlush; (repeat' split) <;> simp
@[simp] theorem State.afterFlush_writes : (s.afterFlush).env.writes = s.env.writes := by unfold State.afterFlush; (repeat' split) <;> simp
@[simp] theorem State.afterFlush_ticks : (s.afterFlush).env.ticks = s.env.ticks := by unfold State.afterFlush; (repeat' split) <;> simp
@[simp] theorem State.afterFlush_resets : (s.afterFlush).env.resets = s.env.resets := by unfold State.afterFlush; (repeat' split) <;> simp
@[simp] theorem State.afterFlush_txStream : (s.afterFlush).env.txStream = s.env.txStream := by unfold State.afterFlush; (repeat' split) <;> simp
@[simp] theorem State.afterFlush_now : (s.afterFlush).env.now = s.env.now := by unfold State.afterFlush; (repeat' split) <;> simp
@[simp] theorem State.afterFlush_draws : (s.afterFlush).env.draws = s.env.draws := by unfold State.afterFlush; (repeat' split) <;> simp

/-! ### State.continueScan -/

@[simp] theorem State.continueScan_cfgFeedback : (s.continueScan).cfgFeedback = s.cfgFeedback := by unfold State.continueScan; (repeat' split) <;> simp
@[simp] theorem State.continueScan_cfgTimeout : (s.continueScan).cfgTimeout = s.cfgTimeout := by unfold State.continueScan; (repeat' split) <;> simp
@[simp] theorem State.continueScan_lastSent : (s.continueScan).lastSent = s.lastSent := by unfold State.continueScan; (repeat' split) <;> simp
@[simp] theorem State.continueScan_lastResp : (s.continueScan).lastResp = s.lastResp := by unfold State.continueScan; (repeat' split) <;> simp
@[simp] theorem State.continueScan_ackSeen : (s.continueScan).ackSeen = s.ackSeen := by unfold State.continueScan; (repeat' split) <;> simp
@[simp] theorem State.continueScan_fbuf : (s.continueScan).fbuf = s.fbuf := by unfold State.continueScan; (repeat' split) <;> simp
@[simp] theorem State.continueScan_phase : (s.continueScan).phase = s.phase := by unfold State.continueScan; (repeat' split) <;> simp
@[simp] theorem State.continueScan_rxb : (s.continueScan).rxb = s.rxb := by unfold State.continueScan; (repeat' split) <;> simp
@[simp] theorem State.continueScan_rxbLen : (s.continueScan).rxbLen = s.rxbLen := by unfold State.continueScan; (repeat' split) <;> simp
@[simp] theorem State.continueScan_rxbIdx : (s.continueScan).rxbIdx = s.rxbIdx := by unfold State.continueScan; (repeat' split) <;> simp
@[simp] theorem State.continueScan_waitStart : (s.continueScan).waitStart = s.waitStart := by unfold State.continueScan; (repeat' split) <;> simp
@[simp] theorem State.continueScan_waitAckreq : (s.continueScan).waitAckreq = s.waitAckreq := by unfold State.continueScan; (repeat' split) <;> simp
@[simp] theorem State.continueScan_opTxFail : (s.continueScan).opTxFail = s.opTxFail := by unfold State.continueScan; (repeat' split) <;> simp
@[simp] theorem State.continueScan_result : (s.continueScan).result = s.result := by unfold State.continueScan; (repeat' split) <;> simp
@[simp] theorem State.continueScan_nested : (s.continueScan).nested = s.nested := by unfold State.continueScan; (repeat' split) <;> simp
@[simp] theorem State.continueScan_opMd : (s.continueScan).opMd = s.opMd := by unfold State.continueScan; (repeat' split) <;> simp
@[simp] theorem State.continueScan_opOverride : (s.continueScan).opOverride = s.opOverride := by unfold State.continueScan; (repeat' split) <;> simp
@[simp] theorem State.continueScan_flushRead : (s.continueScan).flushRead = s.flushRead := by unfold State.continueScan; (repeat' split) <;> simp
@[simp] theorem State.continueScan_params : (s.continueScan).params = s.params := by unfold State.continueScan; (repeat' split) <;> simp
@[simp] theorem State.continueScan_env : (s.continueScan).env = s.env := by unfold State.continueScan; (repeat' split) <;> simp

/-! ### State.waitPolicyEnd -/

@[simp] theorem State.waitPolicyEnd_cfgFeedback : (s.waitPolicyEnd).cfgFeedback = s.cfgFeedback := by unfold State.waitPolicyEnd; (repeat' split) <;> simp
@[simp] theorem State.waitPolicyEnd_cfgTimeout : (s.waitPolicyEnd).cfgTimeout = s.cfgTimeout := by unfold State.waitPolicyEnd; (repeat' split) <;> simp
@[simp] theorem State.waitPolicyEnd_lastSent : (s.waitPolicyEnd).lastSent = s.lastSent := by unfold State.waitPolicyEnd; (repeat' split) <;> simp
@[simp] theorem State.waitPolicyEnd_lastResp : (s.waitPolicyEnd).lastResp = s.lastResp := by unfold State.waitPolicyEnd; (repeat' split) <;> simp
@[simp] theorem State.waitPolicyEnd_ackSeen : (s.waitPolicyEnd).ackSeen = s.ackSeen := by unfold State.waitPolicyEnd; (repeat' split) <;> simp
@[simp] theorem State.waitPolicyEnd_fbuf : (s.waitPolicyEnd).fbuf = s.fbuf := by unfold State.waitPolicyEnd; (repeat' split) <;> simp
@[simp] theorem State.waitPolicyEnd_phase : (s.waitPolicyEnd).phase = s.phase := by unfold State.waitPolicyEnd; (repeat' split) <;> simp
@[simp] theorem State.waitPolicyEnd_rxb : (s.waitPolicyEnd).rxb = s.rxb := by unfold State.waitPolicyEnd; (repeat' split) <;> simp
@[simp] theorem State.waitPolicyEnd_waitStart : (s.waitPolicyEnd).waitStart = s.waitStart := by unfold State.waitPolicyEnd; (repeat' split) <;> simp
@[simp] theorem State.waitPolicyEnd_waitAckreq : (s.waitPolicyEnd).waitAckreq = s.waitAckreq := by unfold State.waitPolicyEnd; (repeat' split) <;> simp
@[simp] theorem State.waitPolicyEnd_opTxFail : (s.waitPolicyEnd).opTxFail = s.opTxFail := by unfold State.waitPolicyEnd; (repeat' split) <;> simp
@[simp] theorem State.waitPolicyEnd_opMd : (s.waitPolicyEnd).opMd = s.opMd := by unfold State.waitPolicyEnd; (repeat' split) <;> simp
@[simp] theorem State.waitPolicyEnd_opOverride : (s.waitPolicyEnd).opOverride = s.opOverride := by unfold State.waitPolicyEnd; (repeat' split) <;> simp
@[simp] theorem State.waitPolicyEnd_flushRead : (s.waitPolicyEnd).flushRead = s.flushRead := by unfold State.waitPolicyEnd; (repeat' split) <;> simp
@[simp] theorem State.waitPolicyEnd_params : (s.waitPolicyEnd).params = s.params := by unfold State.waitPolicyEnd; (repeat' split) <;> simp
@[simp] theorem State.waitPolicyEnd_channel : (s.waitPolicyEnd).env.channel = s.env.channel := by unfold State.waitPolicyEnd; (repeat' split) <;> simp
@[simp] theorem State.waitPolicyEnd_polls : (s.waitPolicyEnd).env.polls = s.env.polls := by unfold State.waitPolicyEnd; (repeat' split) <;> simp
@[simp] theorem State.waitPolicyEnd_reads : (s.waitPolicyEnd).env.reads = s.env.reads := by unfold State.waitPolicyEnd; (repeat' split) <;> simp
@[simp] theorem State.waitPolicyEnd_writes : (s.waitPolicyEnd).env.writes = s.env.writes := by unfold State.waitPolicyEnd; (repeat' split) <;> simp
@[simp] theorem State.waitPolicyEnd_ticks : (s.waitPolicyEnd).env.ticks = s.env.ticks := by unfold State.waitPolicyEnd; (repeat' split) <;> simp
@[simp] theorem State.waitPolicyEnd_resets : (s.waitPolicyEnd).env.resets = s.env.resets := by unfold State.waitPolicyEnd; (repeat' split) <;> simp
@[simp] theorem State.waitPolicyEnd_txStream : (s.waitPolicyEnd).env.txStream = s.env.txStream := by unfold State.waitPolicyEnd; (repeat' split) <;> simp
@[simp] theorem State.waitPolicyEnd_now : (s.waitPolicyEnd).env.now = s.env.now := by unfold State.waitPolicyEnd; (repeat' split) <;> simp
@[simp] theorem State.waitPolicyEnd_draws : (s.waitPolicyEnd).env.draws = s.env.draws := by unfold State.waitPolicyEnd; (repeat' split) <;> simp

/-! ### State.interpret -/

@[simp] theorem State.interpret_cfgFeedback (m : MessageData) : (s.interpret m).cfgFeedback = s.cfgFeedback := by unfold State.interpret; (repeat' split) <;> simp
@[simp] theorem State.interpret_cfgTimeout (m : MessageData) : (s.interpret m).cfgTimeout = s.cfgTimeout := by unfold State.interpret; (repeat' split) <;> simp
@[simp] theorem State.interpret_lastSent (m : MessageData) : (s.interpret m).lastSent = s.lastSent := by unfold State.interpret; (repeat' split) <;> simp
@[simp] theorem State.interpret_fbuf (m : MessageData) : (s.interpret m).fbuf = s.fbuf := by unfold State.interpret; (repeat' split) <;> simp
@[simp] theorem State.interpret_phase (m : MessageData) : (s.interpret m).phase = s.phase := by unfold State.interpret; (repeat' split) <;> simp
@[simp] theorem State.interpret_rxb (m : MessageData) : (s.interpret m).rxb = s.rxb := by unfold State.interpret; (repeat' split) <;> simp
@[simp] theorem State.interpret_waitStart (m : MessageData) : (s.interpret m).waitStart = s.waitStart := by unfold State.interpret; (repeat' split) <;> simp
@[simp] theorem State.interpret_waitAckreq (m : MessageData) : (s.interpret m).waitAckreq = s.waitAckreq := by unfold State.interpret; (repeat' split) <;> simp
@[simp] theorem State.interpret_opTxFail (m : MessageData) : (s.interpret m).opTxFail = s.opTxFail := by unfold State.interpret; (repeat' split) <;> simp
@[simp] theorem State.interpret_opMd (m : MessageData) : (s.interpret m).opMd = s.opMd := by unfold State.interpret; (repeat' split) <;> simp
@[simp] theorem State.interpret_opOverride (m : MessageData) : (s.interpret m).opOverride = s.opOverride := by unfold State.interpret; (repeat' split) <;> simp
@[simp] theorem State.interpret_flushRead (m : MessageData) : (s.interpret m).flushRead = s.flushRead := by unfold State.interpret; (repeat' split) <;> simp
@[simp] theorem State.interpret_params (m : MessageData) : (s.interpret m).params = s.params := by unfold State.interpret; (repeat' split) <;> simp
@[simp] theorem State.interpret_channel (m : MessageData) : (s.interpret m).env.channel = s.env.channel := by unfold State.interpret; (repeat' split) <;> simp
@[simp] theorem State.interpret_polls (m : MessageData) : (s.interpret m).env.polls = s.env.polls := by unfold State.interpret; (repeat' split) <;> simp
@[simp] theorem State.interpret_reads (m : MessageData) : (s.interpret m).env.reads = s.env.reads := by unfold State.interpret; (repeat' split) <;> simp
@[simp] theorem State.interpret_writes (m : MessageData) : (s.interpret m).env.writes = s.env.writes := by unfold State.interpret; (repeat' split) <;> simp
@[simp] theorem State.interpret_ticks (m : MessageData) : (s.interpret m).env.ticks = s.env.ticks := by unfold State.interpret; (repeat' split) <;> simp
@[simp] theorem State.interpret_resets (m : MessageData) : (s.interpret m).env.resets = s.env.resets := by unfold State.interpret; (repeat' split) <;> simp
@[simp] theorem State.interpret_txStream (m : MessageData) : (s.interpret m).env.txStream = s.env.txStream := by unfold State.interpret; (repeat' split) <;> simp
@[simp] theorem State.interpret_now (m : MessageData) : (s.interpret m).env.now = s.env.now := by unfold State.interpret; (repeat' split) <;> simp
@[simp] theorem State.interpret_draws (m : MessageData) : (s.interpret m).env.draws = s.env.draws := by unfold State.interpret; (repeat' split) <;> simp

/-! ### State.completeFrame -/

@[simp] theorem State.completeFrame_cfgFeedback (f : Frame) : (s.completeFrame f).cfgFeedback = s.cfgFeedback := by unfold State.completeFrame; (repeat' split) <;> simp
@[simp] theorem State.completeFrame_cfgTimeout (f : Frame) : (s.completeFrame f).cfgTimeout = s.cfgTimeout := by unfold State.completeFrame; (repeat' split) <;> simp
@[simp] theorem State.completeFrame_lastSent (f : Frame) : (s.completeFrame f).lastSent = s.lastSent := by unfold State.completeFrame; (repeat' split) <;> simp
@[simp] theorem State.completeFrame_fbuf (f : Frame) : (s.completeFrame f).fbuf = s.fbuf := by unfold State.completeFrame; (repeat' split) <;> simp
@[simp] theorem State.completeFrame_phase (f : Frame) : (s.completeFrame f).phase = s.phase := by unfold State.completeFrame; (repeat' split) <;> simp
@[simp] theorem State.completeFrame_rxb (f : Frame) : (s.completeFrame f).rxb = s.rxb := by unfold State.completeFrame; (repeat' split) <;> simp
@[simp] theorem State.completeFrame_waitStart (f : Frame) : (s.completeFrame f).waitStart = s.waitStart := by unfold State.completeFrame; (repeat' split) <;> simp
@[simp] theorem State.completeFrame_waitAckreq (f : Frame) : (s.completeFrame f).waitAckreq = s.waitAckreq := by unfold State.completeFrame; (repeat' split) <;> simp
@[simp] theorem State.completeFrame_opTxFail (f : Frame) : (s.completeFrame f).opTxFail = s.opTxFail := by unfold State.completeFrame; (repeat' split) <;> simp
@[simp] theorem State.completeFrame_opMd (f : Frame) : (s.completeFrame f).opMd = s.opMd := by unfold State.completeFrame; (repeat' split) <;> simp
@[simp] theorem State.completeFrame_opOverride (f : Frame) : (s.completeFrame f).opOverride = s.opOverride := by unfold State.completeFrame; (repeat' split) <;> simp
@[simp] theorem State.completeFrame_flushRead (f : Frame) : (s.completeFrame f).flushRead = s.flushRead := by unfold State.completeFrame; (repeat' split) <;> simp
@[simp] theorem State.completeFrame_params (f : Frame) : (s.completeFrame f).params = s.params := by unfold State.completeFrame; (repeat' split) <;> simp
@[simp] theorem State.completeFrame_channel (f : Frame) : (s.completeFrame f).env.channel = s.env.channel := by unfold State.completeFrame; (repeat' split) <;> simp
@[simp] theorem State.completeFrame_polls (f : Frame) : (s.completeFrame f).env.polls = s.env.polls := by unfold State.completeFrame; (repeat' split) <;> simp
@[simp] theorem State.completeFrame_reads (f : Frame) : (s.completeFrame f).env.reads = s.env.reads := by unfold State.completeFrame; (repeat' split) <;> simp
@[simp] theorem State.completeFrame_writes (f : Frame) : (s.completeFrame f).env.writes = s.env.writes := by unfold State.completeFrame; (repeat' split) <;> simp
@[simp] theorem State.completeFrame_ticks (f : Frame) : (s.completeFrame f).env.ticks = s.env.ticks := by unfold State.completeFrame; (repeat' split) <;> simp
@[simp] theorem State.completeFrame_resets (f : Frame) : (s.completeFrame f).env.resets = s.env.resets := by unfold State.completeFrame; (repeat' split) <;> simp
@[simp] theorem State.completeFrame_txStream (f : Frame) : (s.completeFrame f).env.txStream = s.env.txStream := by unfold State.completeFrame; (repeat' split) <;> simp
@[simp] theorem State.completeFrame_now (f : Frame) : (s.completeFrame f).env.now = s.env.now := by unfold State.completeFrame; (repeat' split) <;> simp
@[simp] theorem State.completeFrame_draws (f : Frame) : (s.completeFrame f).env.draws = s.env.draws := by unfold State.completeFrame; (repeat' split) <;> simp

/-! ### txStep -/

@[simp] theorem txStep_cfgFeedback : (txStep s).cfgFeedback = s.cfgFeedback := by unfold txStep; (repeat' split) <;> simp
@[simp] theorem txStep_cfgTimeout : (txStep s).cfgTimeout = s.cfgTimeout := by unfold txStep; (repeat' split) <;> simp
@[simp] theorem txStep_lastResp : (txStep s).lastResp = s.lastResp := by unfold txStep; (repeat' split) <;> simp
@[simp] theorem txStep_fbuf : (txStep s).fbuf = s.fbuf := by unfold txStep; (repeat' split) <;> simp
@[simp] theorem txStep_phase : (txStep s).phase = s.phase := by unfold txStep; (repeat' split) <;> simp
@[simp] theorem txStep_rxb : (txStep s).rxb = s.rxb := by unfold txStep; (repeat' split) <;> simp
@[simp] theorem txStep_opMd : (txStep s).opMd = s.opMd := by unfold txStep; (repeat' split) <;> simp
@[simp] theorem txStep_opOverride : (txStep s).opOverride = s.opOverride := by unfold txStep; (repeat' split) <;> simp
@[simp] theorem txStep_flushRead : (txStep s).flushRead = s.flushRead := by unfold txStep; (repeat' split) <;> simp
@[simp] theorem txStep_params : (txStep s).params = s.params := by unfold txStep; (repeat' split) <;> simp
@[simp] theorem txStep_channel : (txStep s).env.channel = s.env.channel := by unfold txStep; (repeat' split) <;> simp
@[simp] theorem txStep_polls : (txStep s).env.polls = s.env.polls := by unfold txStep; (repeat' split) <;> simp
@[simp] theorem txStep_reads : (txStep s).env.reads = s.env.reads := by unfold txStep; (repeat' split) <;> simp
@[simp] theorem txStep_resets : (txStep s).env.resets = s.env.resets := by unfold txStep; (repeat' split) <;> simp

/-! ### waitPollStep -/

@[simp] theorem waitPollStep_cfgFeedback : (waitPollStep s).cfgFeedback = s.cfgFeedback := by unfold waitPollStep; (repeat' split) <;> simp
@[simp] theorem waitPollStep_cfgTimeout : (waitPollStep s).cfgTimeout = s.cfgTimeout := by unfold waitPollStep; (repeat' split) <;> simp
@[simp] theorem waitPollStep_lastSent : (waitPollStep s).lastSent = s.lastSent := by unfold waitPollStep; (repeat' split) <;> simp
@[simp] theorem waitPollStep_lastResp : (waitPollStep s).lastResp = s.lastResp := by unfold waitPollStep; (repeat' split) <;> simp
@[simp] theorem waitPollStep_ackSeen : (waitPollStep s).ackSeen = s.ackSeen := by unfold waitPollStep; (repeat' split) <;> simp
@[simp] theorem waitPollStep_fbuf : (waitPollStep s).fbuf = s.fbuf := by unfold waitPollStep; (repeat' split) <;> simp
@[simp] theorem waitPollStep_phase : (waitPollStep s).phase = s.phase := by unfold waitPollStep; (repeat' split) <;> simp
@[simp] theorem waitPollStep_rxb : (waitPollStep s).rxb = s.rxb := by unfold waitPollStep; (repeat' split) <;> simp
@[simp] theorem waitPollStep_waitStart : (waitPollStep s).waitStart = s.waitStart := by unfold waitPollStep; (repeat' split) <;> simp
@[simp] theorem waitPollStep_waitAckreq : (waitPollStep s).waitAckreq = s.waitAckreq := by unfold waitPollStep; (repeat' split) <;> simp
@[simp] theorem waitPollStep_opTxFail : (waitPollStep s).opTxFail = s.opTxFail := by unfold waitPollStep; (repeat' split) <;> simp
@[simp] theorem waitPollStep_opMd : (waitPollStep s).opMd = s.opMd := by unfold waitPollStep; (repeat' split) <;> simp
@[simp] theorem waitPollStep_opOverride : (waitPollStep s).opOverride = s.opOverride := by unfold waitPollStep; (repeat' split) <;> simp
@[simp] theorem waitPollStep_flushRead : (waitPollStep s).flushRead = s.flushRead := by unfold waitPollStep; (repeat' split) <;> simp
@[simp] theorem waitPollStep_params : (waitPollStep s).params = s.params := by unfold waitPollStep; (repeat' split) <;> simp
@[simp] theorem waitPollStep_channel : (waitPollStep s).env.channel = s.env.channel := by unfold waitPollStep; (repeat' split) <;> simp
@[simp] theorem waitPollStep_reads : (waitPollStep s).env.reads = s.env.reads := by unfold waitPollStep; (repeat' split) <;> simp
@[simp] theorem waitPollStep_writes : (waitPollStep s).env.writes = s.env.writes := by unfold waitPollStep; (repeat' split) <;> simp
@[simp] theorem waitPollStep_resets : (waitPollStep s).env.resets = s.env.resets := by unfold waitPollStep; (repeat' split) <;> simp
@[simp] theorem waitPollStep_txStream : (waitPollStep s).env.txStream = s.env.txStream := by unfold waitPollStep; (repeat' split) <;> simp

/-! ### waitSleepStep -/

@[simp] theorem waitSleepStep_cfgFeedback : (waitSleepStep s).cfgFeedback = s.cfgFeedback := by simp [waitSleepStep]
@[simp] theorem waitSleepStep_cfgTimeout : (waitSleepStep s).cfgTimeout = s.cfgTimeout := by simp [waitSleepStep]
@[simp] theorem waitSleepStep_lastSent : (waitSleepStep s).lastSent = s.lastSent := by simp [waitSleepStep]
@[simp] theorem waitSleepStep_lastResp : (waitSleepStep s).lastResp = s.lastResp := by simp [waitSleepStep]
@[simp] theorem waitSleepStep_ackSeen : (waitSleepStep s).ackSeen = s.ackSeen := by simp [waitSleepStep]
@[simp] theorem waitSleepStep_fbuf : (waitSleepStep s).fbuf = s.fbuf := by simp [waitSleepStep]
@[simp] theorem waitSleepStep_phase : (waitSleepStep s).phase = s.phase := by simp [waitSleepStep]
@[simp] theorem waitSleepStep_rxb : (waitSleepStep s).rxb = s.rxb := by simp [waitSleepStep]
@[simp] theorem waitSleepStep_rxbLen : (waitSleepStep s).rxbLen = s.rxbLen := by simp [waitSleepStep]
@[simp] theorem waitSleepStep_rxbIdx : (waitSleepStep s).rxbIdx = s.rxbIdx := by simp [waitSleepStep]
@[simp] theorem waitSleepStep_waitStart : (waitSleepStep s).waitStart = s.waitStart := by simp [waitSleepStep]
@[simp] theorem waitSleepStep_waitAckreq : (waitSleepStep s).waitAckreq = s.waitAckreq := by simp [waitSleepStep]
@[simp] theorem waitSleepStep_opTxFail : (waitSleepStep s).opTxFail = s.opTxFail := by simp [waitSleepStep]
@[simp] theorem waitSleepStep_result : (waitSleepStep s).result = s.result := by simp [waitSleepStep]
@[simp] theorem waitSleepStep_nested : (waitSleepStep s).nested = s.nested := by simp [waitSleepStep]
@[simp] theorem waitSleepStep_opMd : (waitSleepStep s).opMd = s.opMd := by simp [waitSleepStep]
@[simp] theorem waitSleepStep_opOverride : (waitSleepStep s).opOverride = s.opOverride := by simp [waitSleepStep]
@[simp] theorem waitSleepStep_flushRead : (waitSleepStep s).flushRead = s.flushRead := by simp [waitSleepStep]
@[simp] theorem waitSleepStep_params : (waitSleepStep s).params = s.params := by simp [waitSleepStep]
@[simp] theorem waitSleepStep_channel : (waitSleepStep s).env.channel = s.env.channel := by simp [waitSleepStep]
@[simp] theorem waitSleepStep_hostReply : (waitSleepStep s).env.hostReply = s.env.hostReply := by simp [waitSleepStep]
@[simp] theorem waitSleepStep_polls : (waitSleepStep s).env.polls = s.env.polls := by simp [waitSleepStep]
@[simp] theorem waitSleepStep_reads : (waitSleepStep s).env.reads = s.env.reads := by simp [waitSleepStep]
@[simp] theorem waitSleepStep_writes : (waitSleepStep s).env.writes = s.env.writes := by simp [waitSleepStep]
@[simp] theorem waitSleepStep_resets : (waitSleepStep s).env.resets = s.env.resets := by simp [waitSleepStep]
@[simp] theorem waitSleepStep_txStream : (waitSleepStep s).env.txStream = s.env.txStream := by simp [waitSleepStep]
@[simp] theorem waitSleepStep_ctrl : (waitSleepStep s).ctrl = .waitPoll := rfl

/-! ### readStep -/

@[simp] theorem readStep_cfgFeedback (a b : Ctrl) : (readStep s a b).cfgFeedback = s.cfgFeedback := by unfold readStep; (repeat' split) <;> simp
@[simp] theorem readStep_cfgTimeout (a b : Ctrl) : (readStep s a b).cfgTimeout = s.cfgTimeout := by unfold readStep; (repeat' split) <;> simp
@[simp] theorem readStep_lastSent (a b : Ctrl) : (readStep s a b).lastSent = s.lastSent := by unfold readStep; (repeat' split) <;> simp
@[simp] theorem readStep_lastResp (a b : Ctrl) : (readStep s a b).lastResp = s.lastResp := by unfold readStep; (repeat' split) <;> simp
@[simp] theorem readStep_ackSeen (a b : Ctrl) : (readStep s a b).ackSeen = s.ackSeen := by unfold readStep; (repeat' split) <;> simp
@[simp] theorem readStep_fbuf (a b : Ctrl) : (readStep s a b).fbuf = s.fbuf := by unfold readStep; (repeat' split) <;> simp
@[simp] theorem readStep_phase (a b : Ctrl) : (readStep s a b).phase = s.phase := by unfold readStep; (repeat' split) <;> simp
@[simp] theorem readStep_waitStart (a b : Ctrl) : (readStep s a b).waitStart = s.waitStart := by unfold readStep; (repeat' split) <;> simp
@[simp] theorem readStep_waitAckreq (a b : Ctrl) : (readStep s a b).waitAckreq = s.waitAckreq := by unfold readStep; (repeat' split) <;> simp
@[simp] theorem readStep_opTxFail (a b : Ctrl) : (readStep s a b).opTxFail = s.opTxFail := by unfold readStep; (repeat' split) <;> simp
@[simp] theorem readStep_opMd (a b : Ctrl) : (readStep s a b).opMd = s.opMd := by unfold readStep; (repeat' split) <;> simp
@[simp] theorem readStep_opOverride (a b : Ctrl) : (readStep s a b).opOverride = s.opOverride := by unfold readStep; (repeat' split) <;> simp
@[simp] theorem readStep_flushRead (a b : Ctrl) : (readStep s a b).flushRead = s.flushRead := by unfold readStep; (repeat' split) <;> simp
@[simp] theorem readStep_params (a b : Ctrl) : (readStep s a b).params = s.params := by unfold readStep; (repeat' split) <;> simp
@[simp] theorem readStep_channel (a b : Ctrl) : (readStep s a b).env.channel = s.env.channel := by unfold readStep; (repeat' split) <;> simp
@[simp] theorem readStep_polls (a b : Ctrl) : (readStep s a b).env.polls = s.env.polls := by unfold readStep; (repeat' split) <;> simp
@[simp] theorem readStep_writes (a b : Ctrl) : (readStep s a b).env.writes = s.env.writes := by unfold readStep; (repeat' split) <;> simp
@[simp] theorem readStep_ticks (a b : Ctrl) : (readStep s a b).env.ticks = s.env.ticks := by unfold readStep; (repeat' split) <;> simp
@[simp] theorem readStep_resets (a b : Ctrl) : (readStep s a b).env.resets = s.env.resets := by unfold readStep; (repeat' split) <;> simp
@[simp] theorem readStep_txStream (a b : Ctrl) : (readStep s a b).env.txStream = s.env.txStream := by unfold readStep; (repeat' split) <;> simp
@[simp] theorem readStep_now (a b : Ctrl) : (readStep s a b).env.now = s.env.now := by unfold readStep; (repeat' split) <;> simp

/-! ### waitPendingStep -/

@[simp] theorem waitPendingStep_cfgFeedback : (waitPendingStep s).cfgFeedback = s.cfgFeedback := by unfold waitPendingStep; (repeat' split) <;> simp
@[simp] theorem waitPendingStep_cfgTimeout : (waitPendingStep s).cfgTimeout = s.cfgTimeout := by unfold waitPendingStep; (repeat' split) <;> simp
@[simp] theorem waitPendingStep_lastSent : (waitPendingStep s).lastSent = s.lastSent := by unfold waitPendingStep; (repeat' split) <;> simp
@[simp] theorem waitPendingStep_lastResp : (waitPendingStep s).lastResp = s.lastResp := by unfold waitPendingStep; (repeat' split) <;> simp
@[simp] theorem waitPendingStep_ackSeen : (waitPendingStep s).ackSeen = s.ackSeen := by unfold waitPendingStep; (repeat' split) <;> simp
@[simp] theorem waitPendingStep_fbuf : (waitPendingStep s).fbuf = s.fbuf := by unfold waitPendingStep; (repeat' split) <;> simp
@[simp] theorem waitPendingStep_phase : (waitPendingStep s).phase = s.phase := by unfold waitPendingStep; (repeat' split) <;> simp
@[simp] theorem waitPendingStep_rxb : (waitPendingStep s).rxb = s.rxb := by unfold waitPendingStep; (repeat' split) <;> simp
@[simp] theorem waitPendingStep_waitStart : (waitPendingStep s).waitStart = s.waitStart := by unfold waitPendingStep; (repeat' split) <;> simp
@[simp] theorem waitPendingStep_waitAckreq : (waitPendingStep s).waitAckreq = s.waitAckreq := by unfold waitPendingStep; (repeat' split) <;> simp
@[simp] theorem waitPendingStep_opTxFail : (waitPendingStep s).opTxFail = s.opTxFail := by unfold waitPendingStep; (repeat' split) <;> simp
@[simp] theorem waitPendingStep_opMd : (waitPendingStep s).opMd = s.opMd := by unfold waitPendingStep; (repeat' split) <;> simp
@[simp] theorem waitPendingStep_opOverride : (waitPendingStep s).opOverride = s.opOverride := by unfold waitPendingStep; (repeat' split) <;> simp
@[simp] theorem waitPendingStep_flushRead : (waitPendingStep s).flushRead = s.flushRead := by unfold waitPendingStep; (repeat' split) <;> simp
@[simp] theorem waitPendingStep_params : (waitPendingStep s).params = s.params := by unfold waitPendingStep; (repeat' split) <;> simp
@[simp] theorem waitPendingStep_channel : (waitPendingStep s).env.channel = s.env.channel := by unfold waitPendingStep; (repeat' split) <;> simp
@[simp] theorem waitPendingStep_reads : (waitPendingStep s).env.reads = s.env.reads := by unfold waitPendingStep; (repeat' split) <;> simp
@[simp] theorem waitPendingStep_writes : (waitPendingStep s).env.writes = s.env.writes := by unfold waitPendingStep; (repeat' split) <;> simp
@[simp] theorem waitPendingStep_ticks : (waitPendingStep s).env.ticks = s.env.ticks := by unfold waitPendingStep; (repeat' split) <;> simp
@[simp] theorem waitPendingStep_resets : (waitPendingStep s).env.resets = s.env.resets := by unfold waitPendingStep; (repeat' split) <;> simp
@[simp] theorem waitPendingStep_txStream : (waitPendingStep s).env.txStream = s.env.txStream := by unfold waitPendingStep; (repeat' split) <;> simp
@[simp] theorem waitPendingStep_now : (waitPendingStep s).env.now = s.env.now := by unfold waitPendingStep; (repeat' split) <;> simp

/-! ### nofbSleepStep -/

@[simp] theorem nofbSleepStep_cfgFeedback : (nofbSleepStep s).cfgFeedback = s.cfgFeedback := by simp [nofbSleepStep]
@[simp] theorem nofbSleepStep_cfgTimeout : (nofbSleepStep s).cfgTimeout = s.cfgTimeout := by simp [nofbSleepStep]
@[simp] theorem nofbSleepStep_lastSent : (nofbSleepStep s).lastSent = s.lastSent := by simp [nofbSleepStep]
@[simp] theorem nofbSleepStep_lastResp : (nofbSleepStep s).lastResp = s.lastResp := by simp [nofbSleepStep]
@[simp] theorem nofbSleepStep_ackSeen : (nofbSleepStep s).ackSeen = s.ackSeen := by simp [nofbSleepStep]
@[simp] theorem nofbSleepStep_fbuf : (nofbSleepStep s).fbuf = s.fbuf := by simp [nofbSleepStep]
@[simp] theorem nofbSleepStep_phase : (nofbSleepStep s).phase = s.phase := by simp [nofbSleepStep]
@[simp] theorem nofbSleepStep_rxb : (nofbSleepStep s).rxb = s.rxb := by simp [nofbSleepStep]
@[simp] theorem nofbSleepStep_waitStart : (nofbSleepStep s).waitStart = s.waitStart := by simp [nofbSleepStep]
@[simp] theorem nofbSleepStep_waitAckreq : (nofbSleepStep s).waitAckreq = s.waitAckreq := by simp [nofbSleepStep]
@[simp] theorem nofbSleepStep_opTxFail : (nofbSleepStep s).opTxFail = s.opTxFail := by simp [nofbSleepStep]
@[simp] theorem nofbSleepStep_opMd : (nofbSleepStep s).opMd = s.opMd := by simp [nofbSleepStep]
@[simp] theorem nofbSleepStep_opOverride : (nofbSleepStep s).opOverride = s.opOverride := by simp [nofbSleepStep]
@[simp] theorem nofbSleepStep_flushRead : (nofbSleepStep s).flushRead = s.flushRead := by simp [nofbSleepStep]
@[simp] theorem nofbSleepStep_params : (nofbSleepStep s).params = s.params := by simp [nofbSleepStep]
@[simp] theorem nofbSleepStep_channel : (nofbSleepStep s).env.channel = s.env.channel := by simp [nofbSleepStep]
@[simp] theorem nofbSleepStep_polls : (nofbSleepStep s).env.polls = s.env.polls := by simp [nofbSleepStep]
@[simp] theorem nofbSleepStep_reads : (nofbSleepStep s).env.reads = s.env.reads := by simp [nofbSleepStep]
@[simp] theorem nofbSleepStep_writes : (nofbSleepStep s).env.writes = s.env.writes := by simp [nofbSleepStep]
@[simp] theorem nofbSleepStep_resets : (nofbSleepStep s).env.resets = s.env.resets := by simp [nofbSleepStep]
@[simp] theorem nofbSleepStep_txStream : (nofbSleepStep s).env.txStream = s.env.txStream := by simp [nofbSleepStep]

/-! ### drainPollStep -/

@[simp] theorem drainPollStep_cfgFeedback : (drainPollStep s).cfgFeedback = s.cfgFeedback := by unfold drainPollStep; (repeat' split) <;> simp
@[simp] theorem drainPollStep_cfgTimeout : (drainPollStep s).cfgTimeout = s.cfgTimeout := by unfold drainPollStep; (repeat' split) <;> simp
@[simp] theorem drainPollStep_lastSent : (drainPollStep s).lastSent = s.lastSent := by unfold drainPollStep; (repeat' split) <;> simp
@[simp] theorem drainPollStep_lastResp : (drainPollStep s).lastResp = s.lastResp := by unfold drainPollStep; (repeat' split) <;> simp
@[simp] theorem drainPollStep_ackSeen : (drainPollStep s).ackSeen = s.ackSeen := by unfold drainPollStep; (repeat' split) <;> simp
@[simp] theorem drainPollStep_fbuf : (drainPollStep s).fbuf = s.fbuf := by unfold drainPollStep; (repeat' split) <;> simp
@[simp] theorem drainPollStep_phase : (drainPollStep s).phase = s.phase := by unfold drainPollStep; (repeat' split) <;> simp
@[simp] theorem drainPollStep_rxb : (drainPollStep s).rxb = s.rxb := by unfold drainPollStep; (repeat' split) <;> simp
@[simp] theorem drainPollStep_waitStart : (drainPollStep s).waitStart = s.waitStart := by unfold drainPollStep; (repeat' split) <;> simp
@[simp] theorem drainPollStep_waitAckreq : (drainPollStep s).waitAckreq = s.waitAckreq := by unfold drainPollStep; (repeat' split) <;> simp
@[simp] theorem drainPollStep_opTxFail : (drainPollStep s).opTxFail = s.opTxFail := by unfold drainPollStep; (repeat' split) <;> simp
@[simp] theorem drainPollStep_opMd : (drainPollStep s).opMd = s.opMd := by unfold drainPollStep; (repeat' split) <;> simp
@[simp] theorem drainPollStep_opOverride : (drainPollStep s).opOverride = s.opOverride := by unfold drainPollStep; (repeat' split) <;> simp
@[simp] theorem drainPollStep_flushRead : (drainPollStep s).flushRead = s.flushRead := by unfold drainPollStep; (repeat' split) <;> simp
@[simp] theorem drainPollStep_params : (drainPollStep s).params = s.params := by unfold drainPollStep; (repeat' split) <;> simp
@[simp] theorem drainPollStep_channel : (drainPollStep s).env.channel = s.env.channel := by unfold drainPollStep; (repeat' split) <;> simp
@[simp] theorem drainPollStep_reads : (drainPollStep s).env.reads = s.env.reads := by unfold drainPollStep; (repeat' split) <;> simp
@[simp] theorem drainPollStep_writes : (drainPollStep s).env.writes = s.env.writes := by unfold drainPollStep; (repeat' split) <;> simp
@[simp] theorem drainPollStep_ticks : (drainPollStep s).env.ticks = s.env.ticks := by unfold drainPollStep; (repeat' split) <;> simp
@[simp] theorem drainPollStep_resets : (drainPollStep s).env.resets = s.env.resets := by unfold drainPollStep; (repeat' split) <;> simp
@[simp] theorem drainPollStep_txStream : (drainPollStep s).env.txStream = s.env.txStream := by unfold drainPollStep; (repeat' split) <;> simp
@[simp] theorem drainPollStep_now : (drainPollStep s).env.now = s.env.now := by unfold drainPollStep; (repeat' split) <;> simp

/-! ### flushStep -/

@[simp] theorem flushStep_cfgFeedback : (flushStep s).cfgFeedback = s.cfgFeedback := by unfold flushStep; (repeat' split) <;> simp
@[simp] theorem flushStep_cfgTimeout : (flushStep s).cfgTimeout = s.cfgTimeout := by unfold flushStep; (repeat' split) <;> simp
@[simp] theorem flushStep_lastSent : (flushStep s).lastSent = s.lastSent := by unfold flushStep; (repeat' split) <;> simp
@[simp] theorem flushStep_lastResp : (flushStep s).lastResp = s.lastResp := by unfold flushStep; (repeat' split) <;> simp
@[simp] theorem flushStep_ackSeen : (flushStep s).ackSeen = s.ackSeen := by unfold flushStep; (repeat' split) <;> simp
@[simp] theorem flushStep_fbuf : (flushStep s).fbuf = s.fbuf := by unfold flushStep; (repeat' split) <;> simp
@[simp] theorem flushStep_phase : (flushStep s).phase = s.phase := by unfold flushStep; (repeat' split) <;> simp
@[simp] theorem flushStep_rxb : (flushStep s).rxb = s.rxb := by unfold flushStep; (repeat' split) <;> simp
@[simp] theorem flushStep_waitStart : (flushStep s).waitStart = s.waitStart := by unfold flushStep; (repeat' split) <;> simp
@[simp] theorem flushStep_waitAckreq : (flushStep s).waitAckreq = s.waitAckreq := by unfold flushStep; (repeat' split) <;> simp
@[simp] theorem flushStep_opOverride : (flushStep s).opOverride = s.opOverride := by unfold flushStep; (repeat' split) <;> simp
@[simp] theorem flushStep_params : (flushStep s).params = s.params := by unfold flushStep; (repeat' split) <;> simp
@[simp] theorem flushStep_channel : (flushStep s).env.channel = s.env.channel := by unfold flushStep; (repeat' split) <;> simp
@[simp] theorem flushStep_writes : (flushStep s).env.writes = s.env.writes := by unfold flushStep; (repeat' split) <;> simp
@[simp] theorem flushStep_ticks : (flushStep s).env.ticks = s.env.ticks := by unfold flushStep; (repeat' split) <;> simp
@[simp] theorem flushStep_resets : (flushStep s).env.resets = s.env.resets := by unfold flushStep; (repeat' split) <;> simp
@[simp] theorem flushStep_txStream : (flushStep s).env.txStream = s.env.txStream := by unfold flushStep; (repeat' split) <;> simp
@[simp] theorem flushStep_now : (flushStep s).env.now = s.env.now := by unfold flushStep; (repeat' split) <;> simp

/-! ### settleStep -/

@[simp] theorem settleStep_cfgFeedback : (settleStep s).cfgFeedback = s.cfgFeedback := by simp [settleStep]
@[simp] theorem settleStep_cfgTimeout : (settleStep s).cfgTimeout = s.cfgTimeout := by simp [settleStep]
@[simp] theorem settleStep_lastSent : (settleStep s).lastSent = s.lastSent := by simp [settleStep]
@[simp] theorem settleStep_lastResp : (settleStep s).lastResp = s.lastResp := by simp [settleStep]
@[simp] theorem settleStep_ackSeen : (settleStep s).ackSeen = s.ackSeen := by simp [settleStep]
@[simp] theorem settleStep_fbuf : (settleStep s).fbuf = s.fbuf := by simp [settleStep]
@[simp] theorem settleStep_phase : (settleStep s).phase = s.phase := by simp [settleStep]
@[simp] theorem settleStep_rxb : (settleStep s).rxb = s.rxb := by simp [settleStep]
@[simp] theorem settleStep_rxbLen : (settleStep s).rxbLen = s.rxbLen := by simp [settleStep]
@[simp] theorem settleStep_rxbIdx : (settleStep s).rxbIdx = s.rxbIdx := by simp [settleStep]
@[simp] theorem settleStep_waitStart : (settleStep s).waitStart = s.waitStart := by simp [settleStep]
@[simp] theorem settleStep_waitAckreq : (settleStep s).waitAckreq = s.waitAckreq := by simp [settleStep]
@[simp] theorem settleStep_opTxFail : (settleStep s).opTxFail = s.opTxFail := by simp [settleStep]
@[simp] theorem settleStep_result : (settleStep s).result = s.result := by simp [settleStep]
@[simp] theorem settleStep_nested : (settleStep s).nested = s.nested := by simp [settleStep]
@[simp] theorem settleStep_opMd : (settleStep s).opMd = s.opMd := by simp [settleStep]
@[simp] theorem settleStep_opOverride : (settleStep s).opOverride = s.opOverride := by simp [settleStep]
@[simp] theorem settleStep_params : (settleStep s).params = s.params := by simp [settleStep]
@[simp] theorem settleStep_channel : (settleStep s).env.channel = s.env.channel := by simp [settleStep]
@[simp] theorem settleStep_hostReply : (settleStep s).env.hostReply = s.env.hostReply := by simp [settleStep]
@[simp] theorem settleStep_polls : (settleStep s).env.polls = s.env.polls := by simp [settleStep]
@[simp] theorem settleStep_reads : (settleStep s).env.reads = s.env.reads := by simp [settleStep]
@[simp] theorem settleStep_writes : (settleStep s).env.writes = s.env.writes := by simp [settleStep]
@[simp] theorem settleStep_resets : (settleStep s).env.resets = s.env.resets := by simp [settleStep]
@[simp] theorem settleStep_txStream : (settleStep s).env.txStream = s.env.txStream := by simp [settleStep]
@[simp] theorem settleStep_ctrl : (settleStep s).ctrl = .initFlush2 := rfl
@[simp] theorem settleStep_flushRead : (settleStep s).flushRead = false := rfl

end Sys2Proof.Machine
end

