-- ==== Sys2Proof/Laws/Ops.lean ====
section
/-! SUPPORT. What the shared operations do: ending an operation, the read limit, the next byte of the batch. -/

namespace Sys2Proof.Machine

/-! ### Ending an operation -/

theorem endOperation_eq_ended (s : State) (r : Result) : s.endOperation r = ended s r := rfl

/-- A host-issued operation ends at once. -/
theorem finish_of_not_nested {s : State} (h : s.nested = false) (r : Result) : s.finish r = ended s r := by
  simp [State.finish, h, endOperation_eq_ended]

/-- A `SEND` whose write did not fail ends as `sendEnded` says. -/
theorem finish_eq_sendEnded {s : State} (h : s.opTxFail = false) (r : Result) : s.finish r = sendEnded s r := by
  unfold State.finish sendEnded State.returnToInit
  split <;> simp [h, endOperation_eq_ended]

/-- A nested `SEND` whose write failed ends `INIT`. -/
theorem finish_of_nested_txFail {s : State} (hn : s.nested = true) (h : s.opTxFail = true) (e : Token) :
    s.finish (.transport e) = ended { s with nested := false } (.init e) := by
  simp [State.finish, hn, State.returnToInit, h, endOperation_eq_ended]

/-! ### The read -/

/-- A read gives at most `RX_BATCH_MAX` bytes (20_memory.md R56). -/
theorem readAnswer_length {s : State} {l : List Byte} (h : s.readAnswer = .batch l) :
    l.length ≤ s.params.rxBatchMax := by
  unfold State.readAnswer ReadAnswer.limit at h
  split at h <;> cases h
  simp [List.length_take]

/-- A batch within the limit comes back whole. -/
theorem limit_of_le {m : Nat} {l : List Byte} (h : l.length ≤ m) :
    ReadAnswer.limit m (.batch l) = .batch l := by
  simp [ReadAnswer.limit, List.take_of_length_le h]

/-! ### What the transport still has after a call -/

@[simp] theorem afterPoll_polls (s : State) : s.afterPoll.env.polls = s.env.polls.tail := by
  unfold State.afterPoll; split <;> rename_i h <;> simp [h]

@[simp] theorem timedPoll_polls (s : State) : s.timedPoll.env.polls = s.env.polls.tail := by
  simp [State.timedPoll]

@[simp] theorem afterWrite_writes (s : State) : s.afterWrite.env.writes = s.env.writes.tail := by
  unfold State.afterWrite; split <;> rename_i h <;> simp [h]

@[simp] theorem afterRead_reads (s : State) : s.afterRead.env.reads = readsLeft s := by
  unfold State.afterRead readsLeft State.nextRead
  cases hr : s.env.reads with
  | nil => cases Config.freeRead s.env.draws <;> simp [ReadAnswer.leftOver]
  | cons a rest => cases a <;> simp [ReadAnswer.leftOver]; split <;> rfl

@[simp] theorem afterResetInput_readsLeft (s : State) : readsLeft s.afterResetInput = readsLeft s := rfl

/-! ### The next byte -/

theorem nextByte?_eq_some {s : State} {b : Byte} :
    s.nextByte? = some b ↔ s.rxbIdx < s.rxbLen ∧ s.rxb[s.rxbIdx]? = some b := by
  unfold State.nextByte? State.moreInBatch
  by_cases h : s.rxbIdx < s.rxbLen <;> simp [h]

theorem nextByte?_ne_none {s : State} (hl : s.rxbLen ≤ s.rxb.length) (h : s.rxbIdx < s.rxbLen) :
    ∃ b, s.nextByte? = some b :=
  ⟨s.rxb[s.rxbIdx]'(by omega), by rw [nextByte?_eq_some]; exact ⟨h, List.getElem?_eq_getElem _⟩⟩

/-! ### The scanner -/

/-- A frame completes only from `AwaitingEnd`, on the end marker, and then the phase is `AwaitingStart`. -/
theorem scanEvent_complete {s : State} {b : Byte} (h : s.scanEvent b = .complete) :
    s.phase = .awaitingEnd ∧ b = Config.endMark ∧ s.scanByte b = { s with phase := .awaitingStart, fbuf := { s.fbuf with stop := b } } := by
  unfold State.scanEvent at h
  unfold State.scanByte
  cases hp : s.phase <;> simp only [hp, scan] at h ⊢ <;> try cases h
  · split at h <;> cases h
  · split at h
    · rename_i hb; simp [hb]
    · cases h

/-- Scanning keeps a partial frame behind a start marker. -/
theorem scan_started {p : Phase} {f : Frame} {b : Byte} (h : p ≠ .awaitingStart → f.start = Config.startMark) :
    (scan p f b).2.1 ≠ .awaitingStart → (scan p f b).2.2.start = Config.startMark := by
  cases p <;> simp_all [scan]
  · split <;> simp_all
  · split <;> simp_all

/-- The ways back to `AwaitingStart` (42_scanner.md R135). -/
theorem scan_back {p : Phase} {f : Frame} {b : Byte} (hp : p ≠ .awaitingStart) (h : (scan p f b).2.1 = .awaitingStart) :
    p = .awaitingEnd ∧ ((scan p f b).1 = .complete ∨ (scan p f b).1 = .resync) := by
  cases p <;> simp_all [scan]
  split <;> simp

/-- With both markers in place, a completed frame is executed by the row its bytes spell. -/
theorem decodeWire_bytes {f : Frame} (h : f.start = Config.startMark) (h' : f.stop = Config.endMark) :
    decodeWire f.bytes = .ok (decodeFrame f) := by
  obtain ⟨⟩ := f
  simp_all [decodeWire, Frame.bytes, Frame.ofBytes?]

end Sys2Proof.Machine
end

