-- ==== Sys2Proof/Laws/PerInstr.lean ====
section
/-! SUPPORT. Statements made for every instruction, one lemma a constructor. `EncodingForm`: where an instruction is encoded
and in what form. A frame row takes the ten bytes of 30_encoding.md R70 with its code in position 3; a request and a wrapper
call take one host item. -/

namespace Sys2Proof

/-- The form of an instruction's encoding. -/
def Laws.EncodingForm.Statement (i : Instr) : Prop :=
  match i.frame? with
  | some r =>
    ∃ l : List Byte, encode i = .wire l ∧ l.length = 10 ∧ l.head? = some 0x7E#8 ∧ l[3]? = some r.1
      ∧ l.getLast? = some 0xEF#8
  | none => ∃ h : HostItem, encode i = .host h

/-- Every frame row has the form of a wire frame. -/
theorem Laws.EncodingForm.of_wire {i : Instr} {c : Byte} {o : FrameOps} (hf : i.frame? = some (c, o))
    (he : encode i = wireOf c o) : Laws.EncodingForm.Statement i := by
  simp only [Laws.EncodingForm.Statement, hf]
  exact ⟨_, he, rfl, rfl, rfl, rfl⟩

theorem Laws.EncodingForm.next (o : FrameOps) : Laws.EncodingForm.Statement (.next o) := of_wire rfl rfl
theorem Laws.EncodingForm.previous (o : FrameOps) : Laws.EncodingForm.Statement (.previous o) := of_wire rfl rfl
theorem Laws.EncodingForm.playTrack (o : FrameOps) : Laws.EncodingForm.Statement (.playTrack o) := of_wire rfl rfl
theorem Laws.EncodingForm.volumeUp (o : FrameOps) : Laws.EncodingForm.Statement (.volumeUp o) := of_wire rfl rfl
theorem Laws.EncodingForm.volumeDown (o : FrameOps) : Laws.EncodingForm.Statement (.volumeDown o) := of_wire rfl rfl
theorem Laws.EncodingForm.setVolume (o : FrameOps) : Laws.EncodingForm.Statement (.setVolume o) := of_wire rfl rfl
theorem Laws.EncodingForm.setEq (o : FrameOps) : Laws.EncodingForm.Statement (.setEq o) := of_wire rfl rfl
theorem Laws.EncodingForm.setPlaybackMode (o : FrameOps) : Laws.EncodingForm.Statement (.setPlaybackMode o) := of_wire rfl rfl
theorem Laws.EncodingForm.setPlaybackSource (o : FrameOps) : Laws.EncodingForm.Statement (.setPlaybackSource o) := of_wire rfl rfl
theorem Laws.EncodingForm.sleep (o : FrameOps) : Laws.EncodingForm.Statement (.sleep o) := of_wire rfl rfl
theorem Laws.EncodingForm.wake (o : FrameOps) : Laws.EncodingForm.Statement (.wake o) := of_wire rfl rfl
theorem Laws.EncodingForm.reset (o : FrameOps) : Laws.EncodingForm.Statement (.reset o) := of_wire rfl rfl
theorem Laws.EncodingForm.play (o : FrameOps) : Laws.EncodingForm.Statement (.play o) := of_wire rfl rfl
theorem Laws.EncodingForm.pause (o : FrameOps) : Laws.EncodingForm.Statement (.pause o) := of_wire rfl rfl
theorem Laws.EncodingForm.playFolderTrack (o : FrameOps) : Laws.EncodingForm.Statement (.playFolderTrack o) := of_wire rfl rfl
theorem Laws.EncodingForm.volumeAdjust (o : FrameOps) : Laws.EncodingForm.Statement (.volumeAdjust o) := of_wire rfl rfl
theorem Laws.EncodingForm.loopAll (o : FrameOps) : Laws.EncodingForm.Statement (.loopAll o) := of_wire rfl rfl
theorem Laws.EncodingForm.playMp3Folder (o : FrameOps) : Laws.EncodingForm.Statement (.playMp3Folder o) := of_wire rfl rfl
theorem Laws.EncodingForm.advert (o : FrameOps) : Laws.EncodingForm.Statement (.advert o) := of_wire rfl rfl
theorem Laws.EncodingForm.playLargeFolder (o : FrameOps) : Laws.EncodingForm.Statement (.playLargeFolder o) := of_wire rfl rfl
theorem Laws.EncodingForm.stopAdvert (o : FrameOps) : Laws.EncodingForm.Statement (.stopAdvert o) := of_wire rfl rfl
theorem Laws.EncodingForm.stop (o : FrameOps) : Laws.EncodingForm.Statement (.stop o) := of_wire rfl rfl
theorem Laws.EncodingForm.loopFolder (o : FrameOps) : Laws.EncodingForm.Statement (.loopFolder o) := of_wire rfl rfl
theorem Laws.EncodingForm.random (o : FrameOps) : Laws.EncodingForm.Statement (.random o) := of_wire rfl rfl
theorem Laws.EncodingForm.loopCurrent (o : FrameOps) : Laws.EncodingForm.Statement (.loopCurrent o) := of_wire rfl rfl
theorem Laws.EncodingForm.dac (o : FrameOps) : Laws.EncodingForm.Statement (.dac o) := of_wire rfl rfl
theorem Laws.EncodingForm.mediaInserted (o : FrameOps) : Laws.EncodingForm.Statement (.mediaInserted o) := of_wire rfl rfl
theorem Laws.EncodingForm.mediaRemoved (o : FrameOps) : Laws.EncodingForm.Statement (.mediaRemoved o) := of_wire rfl rfl
theorem Laws.EncodingForm.finishedUsb (o : FrameOps) : Laws.EncodingForm.Statement (.finishedUsb o) := of_wire rfl rfl
theorem Laws.EncodingForm.finishedSd (o : FrameOps) : Laws.EncodingForm.Statement (.finishedSd o) := of_wire rfl rfl
theorem Laws.EncodingForm.finishedFlash (o : FrameOps) : Laws.EncodingForm.Statement (.finishedFlash o) := of_wire rfl rfl
theorem Laws.EncodingForm.initComplete (o : FrameOps) : Laws.EncodingForm.Statement (.initComplete o) := of_wire rfl rfl
theorem Laws.EncodingForm.error (o : FrameOps) : Laws.EncodingForm.Statement (.error o) := of_wire rfl rfl
theorem Laws.EncodingForm.ack (o : FrameOps) : Laws.EncodingForm.Statement (.ack o) := of_wire rfl rfl
theorem Laws.EncodingForm.queryStatus (o : FrameOps) : Laws.EncodingForm.Statement (.queryStatus o) := of_wire rfl rfl
theorem Laws.EncodingForm.queryVolume (o : FrameOps) : Laws.EncodingForm.Statement (.queryVolume o) := of_wire rfl rfl
theorem Laws.EncodingForm.queryEq (o : FrameOps) : Laws.EncodingForm.Statement (.queryEq o) := of_wire rfl rfl
theorem Laws.EncodingForm.queryPlaybackMode (o : FrameOps) : Laws.EncodingForm.Statement (.queryPlaybackMode o) := of_wire rfl rfl
theorem Laws.EncodingForm.queryVersion (o : FrameOps) : Laws.EncodingForm.Statement (.queryVersion o) := of_wire rfl rfl
theorem Laws.EncodingForm.queryUsbFiles (o : FrameOps) : Laws.EncodingForm.Statement (.queryUsbFiles o) := of_wire rfl rfl
theorem Laws.EncodingForm.querySdFiles (o : FrameOps) : Laws.EncodingForm.Statement (.querySdFiles o) := of_wire rfl rfl
theorem Laws.EncodingForm.queryFlashFiles (o : FrameOps) : Laws.EncodingForm.Statement (.queryFlashFiles o) := of_wire rfl rfl
theorem Laws.EncodingForm.queryUsbTrack (o : FrameOps) : Laws.EncodingForm.Statement (.queryUsbTrack o) := of_wire rfl rfl
theorem Laws.EncodingForm.querySdTrack (o : FrameOps) : Laws.EncodingForm.Statement (.querySdTrack o) := of_wire rfl rfl
theorem Laws.EncodingForm.queryFlashTrack (o : FrameOps) : Laws.EncodingForm.Statement (.queryFlashTrack o) := of_wire rfl rfl
theorem Laws.EncodingForm.queryFolderFiles (o : FrameOps) : Laws.EncodingForm.Statement (.queryFolderFiles o) := of_wire rfl rfl
theorem Laws.EncodingForm.queryFolders (o : FrameOps) : Laws.EncodingForm.Statement (.queryFolders o) := of_wire rfl rfl
theorem Laws.EncodingForm.unknown (c : Byte) (o : FrameOps) : Laws.EncodingForm.Statement (.unknown c o) := of_wire rfl rfl
theorem Laws.EncodingForm.init (ov fb : Bool) (t d : Nat) : Laws.EncodingForm.Statement (.init ov fb t d) := ⟨_, rfl⟩
theorem Laws.EncodingForm.send (cmd ph pl : Byte) : Laws.EncodingForm.Statement (.send cmd ph pl) := ⟨_, rfl⟩
theorem Laws.EncodingForm.callSendRaw (cmd ph pl : Byte) : Laws.EncodingForm.Statement (.callSendRaw cmd ph pl) := ⟨_, rfl⟩
theorem Laws.EncodingForm.callReset : Laws.EncodingForm.Statement .callReset := ⟨_, rfl⟩
theorem Laws.EncodingForm.callSetVolume (v : Byte) : Laws.EncodingForm.Statement (.callSetVolume v) := ⟨_, rfl⟩
theorem Laws.EncodingForm.callPlayTrack (n : Word16) : Laws.EncodingForm.Statement (.callPlayTrack n) := ⟨_, rfl⟩
theorem Laws.EncodingForm.callSetEqualizer (e : Byte) : Laws.EncodingForm.Statement (.callSetEqualizer e) := ⟨_, rfl⟩
theorem Laws.EncodingForm.callSetPlaybackSource (x : Byte) : Laws.EncodingForm.Statement (.callSetPlaybackSource x) := ⟨_, rfl⟩
theorem Laws.EncodingForm.callSetLoopAll (b : Bool) : Laws.EncodingForm.Statement (.callSetLoopAll b) := ⟨_, rfl⟩

end Sys2Proof
end

