-- ==== Sys2Proof/Laws/Scanner.lean ====
section
/-! SUPPORT. Scanning a list of bytes: two parts one after the other, what is dropped, and how soon a frame can complete. -/

namespace Sys2Proof.Machine

/-- Bytes that come in two parts are scanned as the first and then the second (42_scanner.md R135). -/
theorem scanAll_append (p : Phase) (f : Frame) (l m : List Byte) :
    scanAll p f (l ++ m)
      = ((scanAll p f l).1 ++ (scanAll (scanAll p f l).2.1 (scanAll p f l).2.2 m).1,
          (scanAll (scanAll p f l).2.1 (scanAll p f l).2.2 m).2) := by
  induction l generalizing p f with
  | nil => rfl
  | cons b l ih => simp only [List.cons_append, scanAll, ih]

/-- Every byte gives one event. -/
@[simp] theorem scanAll_length (p : Phase) (f : Frame) (l : List Byte) : (scanAll p f l).1.length = l.length := by
  induction l generalizing p f with
  | nil => rfl
  | cons b l ih => simp [scanAll, ih]

/-- Before the tenth position of a frame is reached, no frame completes. -/
theorem scanAll_no_complete (p : Phase) (f : Frame) (l : List Byte) (h : l.length + p.code.toNat < 10) :
    .complete ∉ (scanAll p f l).1 := by
  induction l generalizing p f with
  | nil => simp [scanAll]
  | cons b l ih =>
    simp only [scanAll, List.mem_cons, not_or]
    rw [List.length_cons] at h
    cases p <;> simp [Phase.code] at h
    case awaitingStart =>
      by_cases hb : b = Config.startMark <;>
        exact ⟨by simp [scan, hb], ih _ _ (by simp [scan, hb, Phase.code]; omega)⟩
    case awaitingEnd => omega
    all_goals exact ⟨by simp [scan], ih _ _ (by simp [scan, Phase.code]; omega)⟩

/-- Bytes without a start marker are dropped and leave the scanner as it is (42_scanner.md R131). -/
theorem scanAll_drops (f : Frame) (l : List Byte) (h : Config.startMark ∉ l) :
    scanAll .awaitingStart f l = (List.replicate l.length .drop, .awaitingStart, f) := by
  induction l generalizing f with
  | nil => rfl
  | cons b l ih =>
    obtain ⟨hb, hl⟩ : Config.startMark ≠ b ∧ Config.startMark ∉ l := by simpa using h
    simp [scanAll, scan, Ne.symm hb, ih _ hl, List.replicate_succ]

end Sys2Proof.Machine
end

