-- ==== Sys2Proof/Laws/Step.lean ====
section
/-! SUPPORT. What a step can be: one inversion of `exec` and one of `step`, which every claim over all steps uses. -/

namespace Sys2Proof.Machine

variable {s t : State}

/-! ### The block reset input changes nothing a step looks at -/

@[simp] theorem afterResetInput_pollAnswer (s : State) : s.afterResetInput.pollAnswer = s.pollAnswer := rfl
@[simp] theorem afterResetInput_writeAnswer (s : State) : s.afterResetInput.writeAnswer = s.writeAnswer := rfl
@[simp] theorem afterResetInput_readAnswer (s : State) : s.afterResetInput.readAnswer = s.readAnswer := rfl
@[simp] theorem afterResetInput_nextByte? (s : State) : s.afterResetInput.nextByte? = s.nextByte? := rfl
@[simp] theorem afterResetInput_tick (s : State) : s.afterResetInput.tick = s.tick := rfl
@[simp] theorem afterResetInput_busy (s : State) : s.afterResetInput.busy = s.busy := rfl
@[simp] theorem afterResetInput_scanEvent (s : State) (b : Byte) : s.afterResetInput.scanEvent b = s.scanEvent b := rfl

/-! ### Frames -/

/-- Every frame row is executed by the one shared meaning. -/
theorem exec_frame {i : Instr} {c : Byte} {o : FrameOps} (h : i.frame? = some (c, o)) (s : State) :
    exec i s = executeFrame c o s := by
  cases i <;> simp only [Instr.frame?, Option.some.injEq, Prod.mk.injEq, reduceCtorEq] at h <;>
    (obtain ⟨rfl, rfl⟩ := h; rfl)

/-- The markers do not count when a frame is executed. -/
theorem completeFrame_frameOf (s : State) (f : Frame) : s.completeFrame (frameOf f.cmd f.ops) = s.completeFrame f := rfl

/-! ### Inversion of `exec` -/

/-- The ways in which an executed instruction leads to a next state. -/
inductive ExecCase (i : Instr) (s : State) : State → Prop where
  | frame (c : Byte) (o : FrameOps) (hi : i.frame? = some (c, o)) (hc : s.ctrl = .waitScan ∨ s.ctrl = .drainScan) :
      ExecCase i s (s.completeFrame (frameOf c o))
  | notLooked (c : Byte) (o : FrameOps) (hi : i.frame? = some (c, o))
      (hc : ¬ (s.ctrl = .waitScan ∨ s.ctrl = .drainScan)) : ExecCase i s s
  | init (ov fb : Bool) (timeout delay : Nat) (hi : i = .init ov fb timeout delay) (hb : s.busy = false) :
      ExecCase i s (s.startInit fb timeout (overrideOf ov delay))
  | send (md : MessageData) (hf : i.frame? = none) (hc : s.ctrl = .idle) : ExecCase i s (s.startSend md)
  | badParameter (hf : i.frame? = none) : ExecCase i s s.replyBadParameter
  | notTaken (hf : i.frame? = none) (hb : s.busy = true) : ExecCase i s s

theorem offerSend_next {i : Instr} {md : MessageData} (hf : i.frame? = none) (h : s.offerSend md = .next t) :
    ExecCase i s t := by
  unfold State.offerSend at h
  split at h
  · cases h; exact .send md hf ‹_›
  · cases h
  · cases h
    refine .notTaken hf ?_
    cases hc : s.ctrl <;> simp_all [State.busy]

theorem exec_next {i : Instr} (h : exec i s = .next t) : ExecCase i s t := by
  cases hf : i.frame? with
  | some r =>
    obtain ⟨c, o⟩ := r
    rw [exec_frame hf] at h
    unfold executeFrame at h
    split at h
    · cases h; exact .frame c o hf ‹_›
    · cases h; exact .notLooked c o hf ‹_›
  | none =>
    cases i <;> simp only [Instr.frame?, reduceCtorEq] at hf <;> simp only [exec] at h
    case init ov fb tm d =>
      simp only [execInit, State.offerInit] at h
      split at h
      · cases h; exact .notTaken rfl ‹_›
      · rename_i hb; cases h; exact .init ov fb tm d rfl (Bool.eq_false_of_not_eq_true hb)
    case callSetVolume v =>
      simp only [execCallSetVolume] at h
      split at h
      · cases h; exact .badParameter rfl
      · exact offerSend_next rfl h
    case callPlayTrack n =>
      simp only [execCallPlayTrack] at h
      split at h
      · cases h; exact .badParameter rfl
      · exact offerSend_next rfl h
    all_goals exact offerSend_next rfl h

/-! ### A write abandoned by a block reset touches the wire and the free draws only -/

@[simp] theorem State.abandonWrite_params (s : State) : s.abandonWrite.params = s.params := by
  unfold State.abandonWrite; split <;> rfl
@[simp] theorem State.abandonWrite_channel (s : State) : s.abandonWrite.env.channel = s.env.channel := by
  unfold State.abandonWrite; split <;> rfl
@[simp] theorem State.abandonWrite_hostReply (s : State) : s.abandonWrite.env.hostReply = s.env.hostReply := by
  unfold State.abandonWrite; split <;> rfl
@[simp] theorem State.abandonWrite_polls (s : State) : s.abandonWrite.env.polls = s.env.polls := by
  unfold State.abandonWrite; split <;> rfl
@[simp] theorem State.abandonWrite_reads (s : State) : s.abandonWrite.env.reads = s.env.reads := by
  unfold State.abandonWrite; split <;> rfl
@[simp] theorem State.abandonWrite_writes (s : State) : s.abandonWrite.env.writes = s.env.writes := by
  unfold State.abandonWrite; split <;> rfl
@[simp] theorem State.abandonWrite_ticks (s : State) : s.abandonWrite.env.ticks = s.env.ticks := by
  unfold State.abandonWrite; split <;> rfl
@[simp] theorem State.abandonWrite_resets (s : State) : s.abandonWrite.env.resets = s.env.resets := by
  unfold State.abandonWrite; split <;> rfl
@[simp] theorem State.abandonWrite_now (s : State) : s.abandonWrite.env.now = s.env.now := by
  unfold State.abandonWrite; split <;> rfl

/-! ### Inversion of `step` -/

/-- The ways in which the step that `CTRL` names leads to a next state. -/
inductive StepCase (s : State) : State → Prop where
  | waits (hc : s.ctrl = .idle ∨ s.ctrl = .uninit) (he : s.env.channel = []) : StepCase s s
  | init (hc : s.ctrl = .idle ∨ s.ctrl = .uninit) (h : HostItem) (rest : List HostItem) (he : s.env.channel = h :: rest)
      (ov fb : Bool) (timeout delay : Nat) (hd : decodeHost h = .ok (.init ov fb timeout delay)) :
      StepCase s (s.takeItem.startInit fb timeout (overrideOf ov delay))
  | send (md : MessageData) (hc : s.ctrl = .idle) (he : s.env.channel ≠ []) : StepCase s (s.takeItem.startSend md)
  | badParameter (hc : s.ctrl = .idle ∨ s.ctrl = .uninit) (he : s.env.channel ≠ []) :
      StepCase s s.takeItem.replyBadParameter
  | tx (hc : s.ctrl = .tx ∨ s.ctrl = .initSend) : StepCase s (txStep s)
  | waitPoll (hc : s.ctrl = .waitPoll) : StepCase s (waitPollStep s)
  | waitSleep (hc : s.ctrl = .waitSleep) : StepCase s (waitSleepStep s)
  | waitRead (hc : s.ctrl = .waitRead) : StepCase s (readStep s .waitScan .waitPoll)
  | waitPending (hc : s.ctrl = .waitPending) : StepCase s (waitPendingStep s)
  | nofbSleep (hc : s.ctrl = .nofbSleep) : StepCase s (nofbSleepStep s)
  | drainPoll (hc : s.ctrl = .drainPoll) : StepCase s (drainPollStep s)
  | drainRead (hc : s.ctrl = .drainRead) : StepCase s (readStep s .drainScan .drainPoll)
  | flush (hc : s.ctrl = .initFlush1 ∨ s.ctrl = .initFlush2) : StepCase s (flushStep s)
  | settle (hc : s.ctrl = .initSettle) : StepCase s (settleStep s)
  | noByte (hc : s.ctrl = .waitScan ∨ s.ctrl = .drainScan) (hb : s.nextByte? = none) : StepCase s s.continueScan
  | byte (hc : s.ctrl = .waitScan ∨ s.ctrl = .drainScan) (b : Byte) (hb : s.nextByte? = some b)
      (he : s.scanEvent b ≠ .complete) : StepCase s (s.takeByte b).continueScan
  | frame (hc : s.ctrl = .waitScan ∨ s.ctrl = .drainScan) (b : Byte) (hb : s.nextByte? = some b)
      (he : s.scanEvent b = .complete) : StepCase s ((s.takeByte b).completeFrame (s.takeByte b).fbuf)

theorem hostStep_next (hc : s.ctrl = .idle ∨ s.ctrl = .uninit) (h : hostStep s = .next t) : StepCase s t := by
  unfold hostStep at h
  split at h
  · cases h; exact .waits hc ‹_›
  · rename_i item rest he
    have hne : s.env.channel ≠ [] := by simp [he]
    split at h
    · cases h
    · rename_i i hd
      have hnb : s.takeItem.busy = false := by
        rcases hc with hc | hc <;> simp [State.busy, hc]
      have hns : ¬ (s.takeItem.ctrl = .waitScan ∨ s.takeItem.ctrl = .drainScan) := by
        rcases hc with hc | hc <;> simp [hc]
      have hif : i.frame? = none := by
        cases item with
        | word w a b =>
          simp only [decodeHost, decodeRequest] at hd
          repeat' split at hd
          all_goals (cases hd <;> rfl)
        | call c => cases hd; cases c <;> rfl
      cases exec_next h with
      | frame c o hi hcs => exact absurd hcs hns
      | notLooked c o hi hcs => rw [hif] at hi; cases hi
      | init ov fb tm d hi hb => subst hi; exact .init hc item rest he ov fb tm d hd
      | send md hf hci => exact .send md (by simpa using hci) hne
      | badParameter hf => exact .badParameter hc hne
      | notTaken hf hb => rw [hnb] at hb; cases hb

theorem scanStep_next (hc : s.ctrl = .waitScan ∨ s.ctrl = .drainScan) (h : scanStep s = .next t) : StepCase s t := by
  unfold scanStep at h
  split at h
  · cases h; exact .noByte hc ‹_›
  · rename_i b hb
    split at h
    · rename_i he
      rw [exec_frame (decodeFrame_frame? _)] at h
      have hcs : (s.takeByte b).ctrl = .waitScan ∨ (s.takeByte b).ctrl = .drainScan := by simpa using hc
      simp only [executeFrame, hcs, if_true, Host.Outcome.next.injEq] at h
      subst h
      exact .frame hc b hb he
    all_goals (rename_i he; cases h; exact .byte hc b hb (by simp [he]))

theorem ctrlStep_next (h : ctrlStep s = .next t) : StepCase s t := by
  unfold ctrlStep at h
  split at h <;> rename_i hc
  · exact hostStep_next (.inr hc) h
  · exact hostStep_next (.inl hc) h
  · cases h; exact .tx (.inl hc)
  · cases h; exact .waitPoll hc
  · cases h; exact .waitSleep hc
  · cases h; exact .waitRead hc
  · exact scanStep_next (.inl hc) h
  · cases h; exact .waitPending hc
  · cases h; exact .nofbSleep hc
  · cases h; exact .drainPoll hc
  · cases h; exact .drainRead hc
  · exact scanStep_next (.inr hc) h
  · cases h; exact .flush (.inl hc)
  · cases h; exact .tx (.inr hc)
  · cases h; exact .settle hc
  · cases h; exact .flush (.inr hc)

/-- Everything a step can be. -/
theorem step_next (h : step s = .next t) :
    s.params.admissible = true
      ∧ ((s.resetNow = true ∧ t = blockReset s.afterResetInput.abandonWrite)
        ∨ (s.resetNow = false ∧ StepCase s.afterResetInput t)) := by
  unfold step engineStep at h
  split at h
  · rename_i ha
    refine ⟨ha, ?_⟩
    split at h
    · rename_i hr; cases h; exact .inl ⟨hr, rfl⟩
    · rename_i hr; exact .inr ⟨by simpa using hr, ctrlStep_next h⟩
  · cases h

/-- A step without a block reset is the step `CTRL` names. -/
theorem step_eq_ctrlStep (ha : s.params.admissible = true) (hr : s.resetNow = false) :
    step s = ctrlStep s.afterResetInput := by
  simp [step, engineStep, ha, hr]

/-- Several steps of any machine are one step and then the rest. -/
theorem core_run_succ {M : Host.Core} {k : Nat} {a b : M.State} (h : M.step a = .next b) : M.run (k + 1) a = M.run k b := by
  simp only [Host.Core.run, h]

/-- Several steps are one step and then the rest. -/
theorem run_succ {k : Nat} (h : step s = .next t) : Sys2Proof.core.run (k + 1) s = Sys2Proof.core.run k t :=
  core_run_succ (M := Sys2Proof.core) h

end Sys2Proof.Machine
end

