-- ==== Sys2Proof/Tests/Slice0.lean ====
section
/-! SUPPORT. The model's own tests: well-formedness, decoding of words written out from the spec, the spec's vectors
(95_test_vectors.md, by their ids), single steps, and for every statement with hypotheses a state that meets them. -/

namespace Sys2Proof.Tests

open Sys2Proof.Machine

/-! ### Well-formedness: what the check refuses (30_encoding.md R76, 00_scope.md R3) -/

def someOps : FrameOps := ⟨0xFF#8, 0x06#8, 0x00#8, 0x00#8, 0x00#8, 0xFE#8, 0xBA#8⟩

/-- A frame with a catalogued code is that code's row, not `unknown`. -/
theorem test_unknown_with_catalogued_code_is_ill_formed :
    Instr.wellFormed (.unknown 0x41#8 someOps) = false ∧ Instr.wellFormed (.unknown 0x01#8 someOps) = false
      ∧ Instr.wellFormed (.unknown 0x4F#8 someOps) = false := by decide

theorem test_unknown_in_a_gap_is_well_formed :
    Instr.wellFormed (.unknown 0x00#8 someOps) = true ∧ Instr.wellFormed (.unknown 0x4A#8 someOps) = true
      ∧ Instr.wellFormed (.unknown 0x1B#8 someOps) = true ∧ Instr.wellFormed (.ack someOps) = true := by decide

/-- The open parameters as the spec's vectors set them. -/
def params : Params :=
  { Params.default with pollInterval := 10, nofbDelay := 20, resetSettleDefault := 500, rxBatchMax := 32 }

theorem test_parameter_checks :
    params.admissible = true
      ∧ { params with knownCodes := [0x40#8, 0x0C#8] }.admissible = false
      ∧ { params with knownCodes := [0x41#8, 0x0C#8] }.admissible = false
      ∧ { params with resetCode := 0x4A#8 }.admissible = false
      ∧ { params with resetCode := 0x41#8 }.admissible = false
      ∧ { params with resetCode := 0x40#8 }.admissible = false
      ∧ { params with moduleErrorMap := [] }.admissible = false
      ∧ { params with pollInterval := 0 }.admissible = false
      ∧ { params with rxBatchMax := 0 }.admissible = false := by decide

/-! ### Decoding: every row's ten bytes written out by 30_encoding.md R70 and R76, checksum by hand (40_checksum.md R100) -/

theorem test_decode_playback_1 :
    decodeWire [0x7E#8, 0xFF#8, 0x06#8, 0x01#8, 0x00#8, 0x00#8, 0x00#8, 0xFE#8, 0xFA#8, 0xEF#8]
        = .ok (.next ⟨0xFF#8, 0x06#8, 0x00#8, 0x00#8, 0x00#8, 0xFE#8, 0xFA#8⟩)
      ∧ decodeWire [0x7E#8, 0xFF#8, 0x06#8, 0x02#8, 0x00#8, 0x00#8, 0x00#8, 0xFE#8, 0xF9#8, 0xEF#8]
        = .ok (.previous ⟨0xFF#8, 0x06#8, 0x00#8, 0x00#8, 0x00#8, 0xFE#8, 0xF9#8⟩)
      ∧ decodeWire [0x7E#8, 0xFF#8, 0x06#8, 0x08#8, 0x00#8, 0x00#8, 0x00#8, 0xFE#8, 0xF3#8, 0xEF#8]
        = .ok (.setPlaybackMode ⟨0xFF#8, 0x06#8, 0x00#8, 0x00#8, 0x00#8, 0xFE#8, 0xF3#8⟩)
      ∧ decodeWire [0x7E#8, 0xFF#8, 0x06#8, 0x0D#8, 0x00#8, 0x00#8, 0x00#8, 0xFE#8, 0xEE#8, 0xEF#8]
        = .ok (.play ⟨0xFF#8, 0x06#8, 0x00#8, 0x00#8, 0x00#8, 0xFE#8, 0xEE#8⟩)
      ∧ decodeWire [0x7E#8, 0xFF#8, 0x06#8, 0x0E#8, 0x00#8, 0x00#8, 0x00#8, 0xFE#8, 0xED#8, 0xEF#8]
        = .ok (.pause ⟨0xFF#8, 0x06#8, 0x00#8, 0x00#8, 0x00#8, 0xFE#8, 0xED#8⟩)
      ∧ decodeWire [0x7E#8, 0xFF#8, 0x06#8, 0x11#8, 0x00#8, 0x00#8, 0x00#8, 0xFE#8, 0xEA#8, 0xEF#8]
        = .ok (.loopAll ⟨0xFF#8, 0x06#8, 0x00#8, 0x00#8, 0x00#8, 0xFE#8, 0xEA#8⟩)
      ∧ decodeWire [0x7E#8, 0xFF#8, 0x06#8, 0x15#8, 0x00#8, 0x00#8, 0x00#8, 0xFE#8, 0xE6#8, 0xEF#8]
        = .ok (.stopAdvert ⟨0xFF#8, 0x06#8, 0x00#8, 0x00#8, 0x00#8, 0xFE#8, 0xE6#8⟩)
      ∧ decodeWire [0x7E#8, 0xFF#8, 0x06#8, 0x16#8, 0x00#8, 0x00#8, 0x00#8, 0xFE#8, 0xE5#8, 0xEF#8]
        = .ok (.stop ⟨0xFF#8, 0x06#8, 0x00#8, 0x00#8, 0x00#8, 0xFE#8, 0xE5#8⟩) := by
  refine ⟨rfl, rfl, rfl, rfl, rfl, rfl, rfl, rfl⟩

theorem test_decode_playback_2 :
    decodeWire [0x7E#8, 0xFF#8, 0x06#8, 0x18#8, 0x00#8, 0x00#8, 0x00#8, 0xFE#8, 0xE3#8, 0xEF#8]
        = .ok (.random ⟨0xFF#8, 0x06#8, 0x00#8, 0x00#8, 0x00#8, 0xFE#8, 0xE3#8⟩)
      ∧ decodeWire [0x7E#8, 0xFF#8, 0x06#8, 0x19#8, 0x00#8, 0x00#8, 0x00#8, 0xFE#8, 0xE2#8, 0xEF#8]
        = .ok (.loopCurrent ⟨0xFF#8, 0x06#8, 0x00#8, 0x00#8, 0x00#8, 0xFE#8, 0xE2#8⟩) := by
  refine ⟨rfl, rfl⟩

theorem test_decode_volume :
    decodeWire [0x7E#8, 0xFF#8, 0x06#8, 0x04#8, 0x00#8, 0x00#8, 0x00#8, 0xFE#8, 0xF7#8, 0xEF#8]
        = .ok (.volumeUp ⟨0xFF#8, 0x06#8, 0x00#8, 0x00#8, 0x00#8, 0xFE#8, 0xF7#8⟩)
      ∧ decodeWire [0x7E#8, 0xFF#8, 0x06#8, 0x05#8, 0x00#8, 0x00#8, 0x00#8, 0xFE#8, 0xF6#8, 0xEF#8]
        = .ok (.volumeDown ⟨0xFF#8, 0x06#8, 0x00#8, 0x00#8, 0x00#8, 0xFE#8, 0xF6#8⟩)
      ∧ decodeWire [0x7E#8, 0xFF#8, 0x06#8, 0x06#8, 0x00#8, 0x00#8, 0x14#8, 0xFE#8, 0xE1#8, 0xEF#8]
        = .ok (.setVolume ⟨0xFF#8, 0x06#8, 0x00#8, 0x00#8, 0x14#8, 0xFE#8, 0xE1#8⟩)
      ∧ decodeWire [0x7E#8, 0xFF#8, 0x06#8, 0x10#8, 0x00#8, 0x00#8, 0x00#8, 0xFE#8, 0xEB#8, 0xEF#8]
        = .ok (.volumeAdjust ⟨0xFF#8, 0x06#8, 0x00#8, 0x00#8, 0x00#8, 0xFE#8, 0xEB#8⟩)
      ∧ decodeWire [0x7E#8, 0xFF#8, 0x06#8, 0x1A#8, 0x00#8, 0x00#8, 0x00#8, 0xFE#8, 0xE1#8, 0xEF#8]
        = .ok (.dac ⟨0xFF#8, 0x06#8, 0x00#8, 0x00#8, 0x00#8, 0xFE#8, 0xE1#8⟩) := by
  refine ⟨rfl, rfl, rfl, rfl, rfl⟩

theorem test_decode_track_and_folder :
    decodeWire [0x7E#8, 0xFF#8, 0x06#8, 0x03#8, 0x00#8, 0x00#8, 0x00#8, 0xFE#8, 0xF8#8, 0xEF#8]
        = .ok (.playTrack ⟨0xFF#8, 0x06#8, 0x00#8, 0x00#8, 0x00#8, 0xFE#8, 0xF8#8⟩)
      ∧ decodeWire [0x7E#8, 0xFF#8, 0x06#8, 0x0F#8, 0x00#8, 0x00#8, 0x00#8, 0xFE#8, 0xEC#8, 0xEF#8]
        = .ok (.playFolderTrack ⟨0xFF#8, 0x06#8, 0x00#8, 0x00#8, 0x00#8, 0xFE#8, 0xEC#8⟩)
      ∧ decodeWire [0x7E#8, 0xFF#8, 0x06#8, 0x12#8, 0x00#8, 0x00#8, 0x00#8, 0xFE#8, 0xE9#8, 0xEF#8]
        = .ok (.playMp3Folder ⟨0xFF#8, 0x06#8, 0x00#8, 0x00#8, 0x00#8, 0xFE#8, 0xE9#8⟩)
      ∧ decodeWire [0x7E#8, 0xFF#8, 0x06#8, 0x13#8, 0x00#8, 0x00#8, 0x00#8, 0xFE#8, 0xE8#8, 0xEF#8]
        = .ok (.advert ⟨0xFF#8, 0x06#8, 0x00#8, 0x00#8, 0x00#8, 0xFE#8, 0xE8#8⟩)
      ∧ decodeWire [0x7E#8, 0xFF#8, 0x06#8, 0x14#8, 0x00#8, 0x00#8, 0x00#8, 0xFE#8, 0xE7#8, 0xEF#8]
        = .ok (.playLargeFolder ⟨0xFF#8, 0x06#8, 0x00#8, 0x00#8, 0x00#8, 0xFE#8, 0xE7#8⟩)
      ∧ decodeWire [0x7E#8, 0xFF#8, 0x06#8, 0x17#8, 0x00#8, 0x00#8, 0x00#8, 0xFE#8, 0xE4#8, 0xEF#8]
        = .ok (.loopFolder ⟨0xFF#8, 0x06#8, 0x00#8, 0x00#8, 0x00#8, 0xFE#8, 0xE4#8⟩) := by
  refine ⟨rfl, rfl, rfl, rfl, rfl, rfl⟩

theorem test_decode_settings :
    decodeWire [0x7E#8, 0xFF#8, 0x06#8, 0x07#8, 0x00#8, 0x00#8, 0x00#8, 0xFE#8, 0xF4#8, 0xEF#8]
        = .ok (.setEq ⟨0xFF#8, 0x06#8, 0x00#8, 0x00#8, 0x00#8, 0xFE#8, 0xF4#8⟩)
      ∧ decodeWire [0x7E#8, 0xFF#8, 0x06#8, 0x09#8, 0x00#8, 0x00#8, 0x00#8, 0xFE#8, 0xF2#8, 0xEF#8]
        = .ok (.setPlaybackSource ⟨0xFF#8, 0x06#8, 0x00#8, 0x00#8, 0x00#8, 0xFE#8, 0xF2#8⟩)
      ∧ decodeWire [0x7E#8, 0xFF#8, 0x06#8, 0x0A#8, 0x00#8, 0x00#8, 0x00#8, 0xFE#8, 0xF1#8, 0xEF#8]
        = .ok (.sleep ⟨0xFF#8, 0x06#8, 0x00#8, 0x00#8, 0x00#8, 0xFE#8, 0xF1#8⟩)
      ∧ decodeWire [0x7E#8, 0xFF#8, 0x06#8, 0x0B#8, 0x00#8, 0x00#8, 0x00#8, 0xFE#8, 0xF0#8, 0xEF#8]
        = .ok (.wake ⟨0xFF#8, 0x06#8, 0x00#8, 0x00#8, 0x00#8, 0xFE#8, 0xF0#8⟩)
      ∧ decodeWire [0x7E#8, 0xFF#8, 0x06#8, 0x0C#8, 0x00#8, 0x00#8, 0x00#8, 0xFE#8, 0xEF#8, 0xEF#8]
        = .ok (.reset ⟨0xFF#8, 0x06#8, 0x00#8, 0x00#8, 0x00#8, 0xFE#8, 0xEF#8⟩) := by
  refine ⟨rfl, rfl, rfl, rfl, rfl⟩

theorem test_decode_notifications :
    decodeWire [0x7E#8, 0xFF#8, 0x06#8, 0x3A#8, 0x00#8, 0x00#8, 0x00#8, 0xFE#8, 0xC1#8, 0xEF#8]
        = .ok (.mediaInserted ⟨0xFF#8, 0x06#8, 0x00#8, 0x00#8, 0x00#8, 0xFE#8, 0xC1#8⟩)
      ∧ decodeWire [0x7E#8, 0xFF#8, 0x06#8, 0x3B#8, 0x00#8, 0x00#8, 0x00#8, 0xFE#8, 0xC0#8, 0xEF#8]
        = .ok (.mediaRemoved ⟨0xFF#8, 0x06#8, 0x00#8, 0x00#8, 0x00#8, 0xFE#8, 0xC0#8⟩)
      ∧ decodeWire [0x7E#8, 0xFF#8, 0x06#8, 0x3C#8, 0x00#8, 0x00#8, 0x00#8, 0xFE#8, 0xBF#8, 0xEF#8]
        = .ok (.finishedUsb ⟨0xFF#8, 0x06#8, 0x00#8, 0x00#8, 0x00#8, 0xFE#8, 0xBF#8⟩)
      ∧ decodeWire [0x7E#8, 0xFF#8, 0x06#8, 0x3D#8, 0x00#8, 0x00#8, 0x05#8, 0xFE#8, 0xB9#8, 0xEF#8]
        = .ok (.finishedSd ⟨0xFF#8, 0x06#8, 0x00#8, 0x00#8, 0x05#8, 0xFE#8, 0xB9#8⟩)
      ∧ decodeWire [0x7E#8, 0xFF#8, 0x06#8, 0x3E#8, 0x00#8, 0x00#8, 0x00#8, 0xFE#8, 0xBD#8, 0xEF#8]
        = .ok (.finishedFlash ⟨0xFF#8, 0x06#8, 0x00#8, 0x00#8, 0x00#8, 0xFE#8, 0xBD#8⟩)
      ∧ decodeWire [0x7E#8, 0xFF#8, 0x06#8, 0x3F#8, 0x00#8, 0x00#8, 0x02#8, 0xFE#8, 0xBA#8, 0xEF#8]
        = .ok (.initComplete ⟨0xFF#8, 0x06#8, 0x00#8, 0x00#8, 0x02#8, 0xFE#8, 0xBA#8⟩)
      ∧ decodeWire [0x7E#8, 0xFF#8, 0x06#8, 0x40#8, 0x00#8, 0x00#8, 0x04#8, 0xFE#8, 0xB7#8, 0xEF#8]
        = .ok (.error ⟨0xFF#8, 0x06#8, 0x00#8, 0x00#8, 0x04#8, 0xFE#8, 0xB7#8⟩)
      ∧ decodeWire [0x7E#8, 0xFF#8, 0x06#8, 0x41#8, 0x00#8, 0x00#8, 0x00#8, 0xFE#8, 0xBA#8, 0xEF#8]
        = .ok (.ack ⟨0xFF#8, 0x06#8, 0x00#8, 0x00#8, 0x00#8, 0xFE#8, 0xBA#8⟩) := by
  refine ⟨rfl, rfl, rfl, rfl, rfl, rfl, rfl, rfl⟩

theorem test_decode_queries_1 :
    decodeWire [0x7E#8, 0xFF#8, 0x06#8, 0x42#8, 0x00#8, 0x00#8, 0x00#8, 0xFE#8, 0xB9#8, 0xEF#8]
        = .ok (.queryStatus ⟨0xFF#8, 0x06#8, 0x00#8, 0x00#8, 0x00#8, 0xFE#8, 0xB9#8⟩)
      ∧ decodeWire [0x7E#8, 0xFF#8, 0x06#8, 0x43#8, 0x00#8, 0x00#8, 0x14#8, 0xFE#8, 0xA4#8, 0xEF#8]
        = .ok (.queryVolume ⟨0xFF#8, 0x06#8, 0x00#8, 0x00#8, 0x14#8, 0xFE#8, 0xA4#8⟩)
      ∧ decodeWire [0x7E#8, 0xFF#8, 0x06#8, 0x44#8, 0x00#8, 0x00#8, 0x00#8, 0xFE#8, 0xB7#8, 0xEF#8]
        = .ok (.queryEq ⟨0xFF#8, 0x06#8, 0x00#8, 0x00#8, 0x00#8, 0xFE#8, 0xB7#8⟩)
      ∧ decodeWire [0x7E#8, 0xFF#8, 0x06#8, 0x45#8, 0x00#8, 0x00#8, 0x00#8, 0xFE#8, 0xB6#8, 0xEF#8]
        = .ok (.queryPlaybackMode ⟨0xFF#8, 0x06#8, 0x00#8, 0x00#8, 0x00#8, 0xFE#8, 0xB6#8⟩)
      ∧ decodeWire [0x7E#8, 0xFF#8, 0x06#8, 0x46#8, 0x00#8, 0x00#8, 0x00#8, 0xFE#8, 0xB5#8, 0xEF#8]
        = .ok (.queryVersion ⟨0xFF#8, 0x06#8, 0x00#8, 0x00#8, 0x00#8, 0xFE#8, 0xB5#8⟩)
      ∧ decodeWire [0x7E#8, 0xFF#8, 0x06#8, 0x47#8, 0x00#8, 0x00#8, 0x00#8, 0xFE#8, 0xB4#8, 0xEF#8]
        = .ok (.queryUsbFiles ⟨0xFF#8, 0x06#8, 0x00#8, 0x00#8, 0x00#8, 0xFE#8, 0xB4#8⟩)
      ∧ decodeWire [0x7E#8, 0xFF#8, 0x06#8, 0x48#8, 0x00#8, 0x00#8, 0x00#8, 0xFE#8, 0xB3#8, 0xEF#8]
        = .ok (.querySdFiles ⟨0xFF#8, 0x06#8, 0x00#8, 0x00#8, 0x00#8, 0xFE#8, 0xB3#8⟩)
      ∧ decodeWire [0x7E#8, 0xFF#8, 0x06#8, 0x49#8, 0x00#8, 0x00#8, 0x00#8, 0xFE#8, 0xB2#8, 0xEF#8]
        = .ok (.queryFlashFiles ⟨0xFF#8, 0x06#8, 0x00#8, 0x00#8, 0x00#8, 0xFE#8, 0xB2#8⟩) := by
  refine ⟨rfl, rfl, rfl, rfl, rfl, rfl, rfl, rfl⟩

theorem test_decode_queries_2 :
    decodeWire [0x7E#8, 0xFF#8, 0x06#8, 0x4B#8, 0x00#8, 0x00#8, 0x00#8, 0xFE#8, 0xB0#8, 0xEF#8]
        = .ok (.queryUsbTrack ⟨0xFF#8, 0x06#8, 0x00#8, 0x00#8, 0x00#8, 0xFE#8, 0xB0#8⟩)
      ∧ decodeWire [0x7E#8, 0xFF#8, 0x06#8, 0x4C#8, 0x00#8, 0x00#8, 0x00#8, 0xFE#8, 0xAF#8, 0xEF#8]
        = .ok (.querySdTrack ⟨0xFF#8, 0x06#8, 0x00#8, 0x00#8, 0x00#8, 0xFE#8, 0xAF#8⟩)
      ∧ decodeWire [0x7E#8, 0xFF#8, 0x06#8, 0x4D#8, 0x00#8, 0x00#8, 0x00#8, 0xFE#8, 0xAE#8, 0xEF#8]
        = .ok (.queryFlashTrack ⟨0xFF#8, 0x06#8, 0x00#8, 0x00#8, 0x00#8, 0xFE#8, 0xAE#8⟩)
      ∧ decodeWire [0x7E#8, 0xFF#8, 0x06#8, 0x4E#8, 0x00#8, 0x00#8, 0x00#8, 0xFE#8, 0xAD#8, 0xEF#8]
        = .ok (.queryFolderFiles ⟨0xFF#8, 0x06#8, 0x00#8, 0x00#8, 0x00#8, 0xFE#8, 0xAD#8⟩)
      ∧ decodeWire [0x7E#8, 0xFF#8, 0x06#8, 0x4F#8, 0x00#8, 0x00#8, 0x00#8, 0xFE#8, 0xAC#8, 0xEF#8]
        = .ok (.queryFolders ⟨0xFF#8, 0x06#8, 0x00#8, 0x00#8, 0x00#8, 0xFE#8, 0xAC#8⟩) := by
  refine ⟨rfl, rfl, rfl, rfl, rfl⟩

theorem test_decode_unknown :
    decodeWire [0x7E#8, 0xFF#8, 0x06#8, 0x20#8, 0x00#8, 0x00#8, 0x00#8, 0xFE#8, 0xDB#8, 0xEF#8]
        = .ok (.unknown 0x20#8 ⟨0xFF#8, 0x06#8, 0x00#8, 0x00#8, 0x00#8, 0xFE#8, 0xDB#8⟩)
      ∧ decodeWire [0x7E#8, 0xFF#8, 0x06#8, 0x4A#8, 0x00#8, 0x00#8, 0x00#8, 0xFE#8, 0xB1#8, 0xEF#8]
        = .ok (.unknown 0x4A#8 ⟨0xFF#8, 0x06#8, 0x00#8, 0x00#8, 0x00#8, 0xFE#8, 0xB1#8⟩)
      ∧ decodeWire [0x7E#8, 0xFF#8, 0x06#8, 0x00#8, 0x00#8, 0x00#8, 0x00#8, 0xFE#8, 0xFB#8, 0xEF#8]
        = .ok (.unknown 0x00#8 ⟨0xFF#8, 0x06#8, 0x00#8, 0x00#8, 0x00#8, 0xFE#8, 0xFB#8⟩) := by
  refine ⟨rfl, rfl, rfl⟩

/-- Bytes that are no frame are refused by name (30_encoding.md R78, R79). -/
theorem test_decode_no_frame :
    decodeWire [] = .error .badLength
      ∧ decodeWire [0x7E#8, 0xFF#8, 0x06#8, 0x41#8, 0x00#8, 0x00#8, 0x00#8, 0xFE#8, 0xBA#8] = .error .badLength
      ∧ decodeWire [0x7F#8, 0xFF#8, 0x06#8, 0x41#8, 0x00#8, 0x00#8, 0x00#8, 0xFE#8, 0xBA#8, 0xEF#8] = .error .badStart
      ∧ decodeWire [0x7E#8, 0xFF#8, 0x06#8, 0x41#8, 0x00#8, 0x00#8, 0x00#8, 0xFE#8, 0xBA#8, 0xEE#8] = .error .badEnd := by
  refine ⟨rfl, rfl, rfl, rfl⟩

/-- L2.5: the request words. -/
theorem test_decode_requests :
    decodeRequest 0x10000000#32 5 6 = .ok (.init false false 5 6)
      ∧ decodeRequest 0x10000001#32 5 6 = .ok (.init false true 5 6)
      ∧ decodeRequest 0x10000002#32 5 6 = .ok (.init true false 5 6)
      ∧ decodeRequest 0x10000003#32 5 6 = .ok (.init true true 5 6)
      ∧ decodeRequest 0x20060014#32 0 0 = .ok (.send 0x06#8 0x00#8 0x14#8)
      ∧ decodeRequest 0x20030BB7#32 0 0 = .ok (.send 0x03#8 0x0B#8 0xB7#8)
      ∧ decodeRequest 0x30000000#32 0 0 = .error .reservedOp ∧ decodeRequest 0x00000000#32 0 0 = .error .reservedOp
      ∧ decodeRequest 0x10000004#32 0 0 = .error .reservedBits
      ∧ decodeRequest 0x21060014#32 0 0 = .error .reservedBits := by
  refine ⟨rfl, rfl, rfl, rfl, rfl, rfl, rfl, rfl, rfl, rfl⟩

/-- The pseudo-operations' words of 30_encoding.md R83 and L2.7, read with the longest mask of the table (log 17). -/
theorem test_decode_wrappers :
    decodeTableWord 32 0x200D0000 = some (.send 0x0D#8 0x00#8 0x00#8)
      ∧ decodeTableWord 32 0x200C0000 = some .callReset
      ∧ decodeTableWord 32 0x20060014 = some (.callSetVolume 0x14#8)
      ∧ decodeTableWord 32 0x20030BB7 = some (.callPlayTrack 0x0BB7#16)
      ∧ decodeTableWord 32 0x20070005 = some (.callSetEqualizer 0x05#8)
      ∧ decodeTableWord 32 0x20090001 = some (.callSetPlaybackSource 0x01#8)
      ∧ decodeTableWord 32 0x20110001 = some (.callSetLoopAll true)
      ∧ decodeTableWord 32 0x20110000 = some (.callSetLoopAll false)
      ∧ decodeHost (.call (.sendRaw ⟨0x0D#8, 0x00#8, 0x00#8⟩)) = .ok (.callSendRaw 0x0D#8 0x00#8 0x00#8)
      ∧ decodeTableWord 80 0x7EFF0641000000FEBAEF = some (.ack someOps) := by
  refine ⟨rfl, rfl, rfl, rfl, rfl, rfl, rfl, rfl, rfl, rfl⟩

/-- L2.5: the words the encoder writes. -/
theorem test_encode_words :
    encodeInitWord true true = 0x10000003#32 ∧ encodeInitWord false true = 0x10000001#32
      ∧ encodeSendWord 0x06#8 0x00#8 0x14#8 = 0x20060014#32 ∧ encodeSendWord 0x03#8 0x0B#8 0xB7#8 = 0x20030BB7#32 := by
  decide

/-! ### Combinational units (95_test_vectors.md L2.1 to L2.4) -/

/-- K1, K3, K6 to K12. -/
theorem test_checksum :
    cksum false 0xFF#8 0x06#8 0x41#8 0x00#8 0x00#8 0x00#8 = 0xFEBA#16
      ∧ cksum false 0xFF#8 0x06#8 0x06#8 0x01#8 0x00#8 0x14#8 = 0xFEE0#16
      ∧ cksum false 0xFF#8 0x06#8 0x03#8 0x01#8 0x0B#8 0xB7#8 = 0xFE35#16
      ∧ cksum false 0xFF#8 0x06#8 0x00#8 0x00#8 0x00#8 0x00#8 = 0xFEFB#16
      ∧ cksum true 0xFF#8 0x06#8 0x00#8 0x00#8 0x00#8 0x00#8 = 0xFEFD#16
      ∧ cksum true 0xFF#8 0x06#8 0x41#8 0x00#8 0x00#8 0x00#8 = 0xFEBA#16
      ∧ cksum false 0x00#8 0x00#8 0x00#8 0x00#8 0x00#8 0x00#8 = 0x0000#16
      ∧ cksum true 0x00#8 0x00#8 0x00#8 0x00#8 0x00#8 0x00#8 = 0x0002#16
      ∧ cksum true 0x00#8 0x00#8 0x00#8 0x00#8 0x00#8 0x02#8 = 0x0000#16
      ∧ cksum false 0xFF#8 0xFF#8 0xFF#8 0xFF#8 0xFF#8 0xFF#8 = 0xFA06#16
      ∧ cksum false 0xFF#8 0x06#8 0x7E#8 0xEF#8 0x7E#8 0xEF#8 = 0xFC21#16 := by decide

def ackFrame : Frame := ⟨0x7E#8, 0xFF#8, 0x06#8, 0x41#8, 0x00#8, 0x00#8, 0x00#8, 0xFE#8, 0xBA#8, 0xEF#8⟩
/-- The frame literal of the source, with its wrong checksum (90_conflicts.md C3). -/
def ackLiteral : Frame := ⟨0x7E#8, 0xFF#8, 0x06#8, 0x41#8, 0x00#8, 0x00#8, 0x00#8, 0x00#8, 0xBF#8, 0xEF#8⟩
def err4Frame : Frame := ⟨0x7E#8, 0xFF#8, 0x06#8, 0x40#8, 0x00#8, 0x00#8, 0x04#8, 0xFE#8, 0xB7#8, 0xEF#8⟩
def infoFrame : Frame := ⟨0x7E#8, 0xFF#8, 0x06#8, 0x3D#8, 0x00#8, 0x00#8, 0x05#8, 0xFE#8, 0xB9#8, 0xEF#8⟩
def unknownFrame : Frame := ⟨0x7E#8, 0xFF#8, 0x06#8, 0x20#8, 0x00#8, 0x00#8, 0x00#8, 0xFE#8, 0xDA#8, 0xEF#8⟩

/-- K14, K15, E1, E2, E5, E12, E13, E15, E18, E20. -/
theorem test_codec :
    cksumCheck false ackFrame = true ∧ cksumCheck false ackLiteral = false
      ∧ (encodeFrame false ⟨0x06#8, 0x00#8, 0x14#8⟩ true).bytes
        = [0x7E#8, 0xFF#8, 0x06#8, 0x06#8, 0x01#8, 0x00#8, 0x14#8, 0xFE#8, 0xE0#8, 0xEF#8]
      ∧ (encodeFrame false ⟨0x06#8, 0x00#8, 0x14#8⟩ false).bytes
        = [0x7E#8, 0xFF#8, 0x06#8, 0x06#8, 0x00#8, 0x00#8, 0x14#8, 0xFE#8, 0xE1#8, 0xEF#8]
      ∧ (encodeFrame false ⟨0x03#8, 0x0B#8, 0xB7#8⟩ true).bytes
        = [0x7E#8, 0xFF#8, 0x06#8, 0x03#8, 0x01#8, 0x0B#8, 0xB7#8, 0xFE#8, 0x35#8, 0xEF#8]
      ∧ (encodeFrame false ⟨0x7E#8, 0x7E#8, 0xEF#8⟩ true).bytes
        = [0x7E#8, 0xFF#8, 0x06#8, 0x7E#8, 0x01#8, 0x7E#8, 0xEF#8, 0xFD#8, 0x0F#8, 0xEF#8]
      ∧ decodeOutput params ackFrame = .decoded ⟨0x41#8, 0x00#8, 0x00#8⟩ 0x00#8 0xFEBA#16 true
      ∧ decodeOutput params ackLiteral = .decoded ⟨0x41#8, 0x00#8, 0x00#8⟩ 0x00#8 0x00BF#16 false
      ∧ decodeOutput params unknownFrame = .unknown 0x20#8
      ∧ decodeOutput params ⟨0x7E#8, 0x00#8, 0x00#8, 0x41#8, 0x07#8, 0x00#8, 0x00#8, 0xFF#8, 0xB8#8, 0xEF#8⟩
        = .decoded ⟨0x41#8, 0x00#8, 0x00#8⟩ 0x07#8 0xFFB8#16 true := by decide

/-- Z2, Z4, Z6, Z7 and Z11: events, phase and frame. -/
theorem test_scanner :
    (scanAll .awaitingStart zeroFrame ([0x00#8, 0x13#8, 0xEF#8, 0xFF#8] ++ ackFrame.bytes)).1
        = List.replicate 4 .drop ++ List.replicate 9 .none ++ [.complete]
      ∧ (scanAll .awaitingStart zeroFrame (ackFrame.bytes.take 9 ++ [0x7E#8])).1 = List.replicate 9 .none ++ [.resync]
      ∧ (scanAll .awaitingStart zeroFrame (0x7E#8 :: ackFrame.bytes)).1
        = List.replicate 9 .none ++ [.resync, .drop]
      ∧ (scanAll .awaitingStart zeroFrame [0x7E#8, 0xFF#8, 0x06#8]).2.1 = .acc3
      ∧ scanAll .awaitingEnd ackFrame [0xEF#8] = ([.complete], .awaitingStart, ackFrame) := by decide

/-- L2.4. -/
theorem test_classify :
    classify params 0x00#8 = .unknown ∧ classify params 0x01#8 = .named .busy ∧ classify params 0x04#8 = .named .checksum
      ∧ classify params 0x08#8 = .named .enterSleepFailed ∧ classify params 0x09#8 = .unknown
      ∧ classify params 0xFF#8 = .unknown := by decide

/-! ### States for single steps -/

/-- The start state of the spec's session vectors (95_test_vectors.md, conventions). -/
def idle : State :=
  { State.reset with
      ctrl := .idle, cfgFeedback := true, cfgTimeout := 1000, params := params, rxb := List.replicate 32 0x00#8 }

/-- What the agents answer. -/
def answers (polls : List PollAnswer) (reads : List ReadAnswer) (writes : List WriteAnswer) : Env :=
  { Env.reset with polls := polls, reads := reads, writes := writes, ticks := [0], resets := [false] }

def volume20 : MessageData := ⟨0x06#8, 0x00#8, 0x14#8⟩
def resetMd : MessageData := ⟨0x0C#8, 0x00#8, 0x00#8⟩

/-- A running `set_volume(20)` in a control state, its frame sent. -/
def running (c : Ctrl) (e : Env) : State :=
  { idle with ctrl := c, opMd := volume20, lastSent := some volume20, waitAckreq := true, env := e }

/-- The reset `SEND` inside `INIT`, in a control state. -/
def nestedIn (c : Ctrl) (e : Env) : State :=
  { idle with ctrl := c, opMd := resetMd, nested := true, env := e }

/-- Scanning the one byte of a batch. -/
def scanningByte (c : Ctrl) (p : Phase) (f : Frame) (b : Byte) : State :=
  { running c (answers [] [] []) with
      phase := p, fbuf := f, rxb := b :: List.replicate 31 0x00#8, rxbLen := 1, rxbIdx := 0 }

/-- The last byte of a frame is due. -/
def lastByte (c : Ctrl) (f : Frame) : State := scanningByte c .awaitingEnd f 0xEF#8

/-- A host with one item to offer. -/
def offering (c : Ctrl) (h : HostItem) : State :=
  { idle with ctrl := c, env := { Env.reset with channel := [h], resets := [false] } }

/-! ### Single steps -/

/-- What one step leaves, read by a function; `none` when the step stops. -/
def after {α : Type} (s : State) (f : State → α) : Option α :=
  match step s with
  | .next t => some (f t)
  | .fault _ => none
  | .refused _ => none

/-- The last byte of S1, of L1.10, of L1.9 (b) and of E18's frame, in the wait. -/
theorem test_last_byte_of_a_frame :
    after (lastByte .waitScan ackFrame) (fun t => (t.ctrl, t.ackSeen, t.lastResp))
        = some (.waitPending, true, some ⟨0x41#8, 0x00#8, 0x00#8⟩)
      ∧ after (lastByte .waitScan err4Frame) (fun t => (t.ctrl, t.result, t.lastResp, t.resultWord))
        = some (.idle, some (.moduleError 0x04#8), some ⟨0x40#8, 0x00#8, 0x04#8⟩, 0x00010405#32)
      ∧ after (lastByte .waitScan ackLiteral) (fun t => (t.result, t.ackSeen, t.lastResp))
        = some (some (.badChecksum 0x41#8), false, none)
      ∧ after (lastByte .drainScan unknownFrame) (fun t => (t.ctrl, t.result))
        = some (.idle, some (.unknownCommand 0x20#8)) := by decide

/-- S4 and S12 at their last polls; S10's check asks for no acknowledgement. -/
theorem test_pending_poll :
    after (running .waitPending (answers [.notready] [] [])) (fun t => t.result) = some (some .failedAck)
      ∧ after { running .waitPending (answers [.notready] [] []) with waitAckreq := false } (fun t => t.result)
        = some (some .ok)
      ∧ after (running .waitPending (answers [.ready] [] [])) (fun t => t.ctrl) = some .waitRead
      ∧ after (running .waitPoll (answers [.terr 2] [] [])) (fun t => t.result) = some (some (.transport 2)) := by decide

/-- S3: at 990 of 1000 the poll sleeps, at 1000 it times out. -/
theorem test_timeout_boundary :
    after (running .waitPoll { answers [.notready] [] [] with now := 999 }) (fun t => t.ctrl) = some .waitSleep
      ∧ after (running .waitPoll { answers [.notready] [] [] with now := 1000 }) (fun t => t.result)
        = some (some .userTimeout)
      ∧ after (running .waitPoll { answers [.ready] [] [] with now := 5000 }) (fun t => t.ctrl) = some .waitRead := by
  decide

/-- S7 and the nested write failure of `INIT` (43_session.md R171). -/
theorem test_write_failure :
    after { running .tx (answers [] [] [.terr 1 3]) with lastSent := none }
        (fun t => (t.result, t.lastSent, t.opTxFail, t.env.txStream))
        = some (some (.transport 1), none, true, [0x7E#8, 0xFF#8, 0x06#8])
      ∧ after (nestedIn .initSend (answers [] [] [.terr 7 0])) (fun t => (t.ctrl, t.result, t.nested))
        = some (.idle, some (.init 7), false)
      ∧ after (nestedIn .waitPoll (answers [.terr 9] [] [])) (fun t => (t.ctrl, t.result, t.nested))
        = some (.initSettle, none, false) := by decide

/-- L1.7 and 45_host_wrappers.md R208: the bounds of the two checked arguments, with and without a session. -/
theorem test_wrapper_bounds :
    after (offering .idle (.call (.setVolume 30#8))) (fun t => (t.ctrl, t.opMd))
        = some (.tx, ⟨0x06#8, 0x00#8, 0x1E#8⟩)
      ∧ after (offering .idle (.call (.setVolume 31#8))) (fun t => (t.ctrl, t.env.hostReply, t.result))
        = some (.idle, some .badParameter, none)
      ∧ after (offering .idle (.call (.playTrack 2999#16))) (fun t => (t.ctrl, t.opMd))
        = some (.tx, ⟨0x03#8, 0x0B#8, 0xB7#8⟩)
      ∧ after (offering .uninit (.call (.playTrack 3000#16))) (fun t => (t.ctrl, t.env.hostReply))
        = some (.uninit, some .badParameter)
      ∧ after (offering .uninit (.call (.setVolume 30#8))) (fun t => t.ctrl) = none := by decide

/-- A placed instruction is the one the next step runs (log 18): the acknowledgement row, `INIT` and `set_volume(20)`. -/
theorem test_placed_instruction_runs :
    after (State.reset.withFetchWord 80 0x7EFF0641000000FEBAEF) (fun t => (t.ackSeen, t.lastResp))
        = some (true, some ⟨0x41#8, 0x00#8, 0x00#8⟩)
      ∧ after (State.reset.withFetchWord 32 0x10000001) (fun t => (t.ctrl, t.cfgFeedback)) = some (.initFlush1, true)
      ∧ after (State.reset.withFetchWord 32 0x20060014) (fun t => (t.ctrl, t.opMd)) = some (.tx, volume20) := by decide

/-- The status word of a state: `ACK_SEEN`, `LAST_SENT` valid, `LAST_RESP` valid, feedback, idle, a session exists. -/
theorem test_status_word :
    { idle with ackSeen := true, lastSent := some volume20, lastResp := some resetMd }.statusWord = 0x20F#32
      ∧ (lastByte .waitScan ackFrame).statusWord = 0x39A#32 ∧ State.reset.statusWord = 0x000#32 := by decide

/-! ### Witnesses: for every statement with hypotheses, a state and operands that meet them all -/

theorem witness_EncodeThenDecodeIsIdentity :
    Instr.wellFormed (.unknown 0x4A#8 someOps) = true ∧ Instr.wellFormed (.setVolume someOps) = true := by decide

theorem witness_DecodedWireEncodesBack : decodeWire ackFrame.bytes = .ok (.ack someOps) := rfl

theorem witness_DecodedRequestEncodesBack :
    decodeRequest 0x10000002#32 0 7 = .ok (.init true false 0 7)
      ∧ decodeRequest 0x20FFFFFF#32 0 0 = .ok (.send 0xFF#8 0xFF#8 0xFF#8) := ⟨rfl, rfl⟩

/-- The premises shared by the statements about a step. -/
def Steps (s : State) : Prop := s.params.admissible = true ∧ s.resetNow = false

theorem offering_steps (c : Ctrl) (h : HostItem) : Steps (offering c h) := ⟨rfl, rfl⟩

/-- The words on both sides of each bound of the three kinds of request words. -/
theorem witness_MalformedAndEarlyRequestsAreRefused :
    (offering .idle (.word 0x0FFFFFFF#32 0 0)).ctrl.taking ∧ (offering .uninit (.word 0x10000004#32 0 0)).ctrl.taking
      ∧ step (offering .idle (.word 0x0FFFFFFF#32 0 0)) = .refused (.badRequest .reservedOp)
      ∧ step (offering .uninit (.word 0x10000004#32 0 0)) = .refused (.badRequest .reservedBits)
      ∧ step (offering .idle (.word 0x1FFFFFFF#32 0 0)) = .refused (.badRequest .reservedBits)
      ∧ step (offering .idle (.word 0x21000000#32 0 0)) = .refused (.badRequest .reservedBits)
      ∧ step (offering .uninit (.word 0x20000000#32 0 0)) = .refused .requestBeforeInit
      ∧ step (offering .uninit (.word 0x20FFFFFF#32 0 0)) = .refused .requestBeforeInit
      ∧ after (offering .uninit (.word 0x10000000#32 0 0)) (fun t => t.ctrl) = some .initFlush1
      ∧ after (offering .idle (.word 0x10000003#32 0 0)) (fun t => t.ctrl) = some .initFlush1
      ∧ after (offering .idle (.word 0x20000000#32 0 0)) (fun t => t.ctrl) = some .tx
      ∧ after (offering .idle (.word 0x20FFFFFF#32 0 0)) (fun t => t.ctrl) = some .tx := by
  refine ⟨.inl rfl, .inr rfl, rfl, rfl, rfl, rfl, rfl, rfl, rfl, rfl, rfl, rfl⟩

theorem witness_InadmissibleParametersAreRefused :
    ({ idle with params := { params with rxBatchMax := 0 } } : State).params.admissible = false := by decide

theorem witness_ChecksumCompletesTheSum :
    cksum false 0xFF#8 0x06#8 0x41#8 0x00#8 0x00#8 0x00#8 = 0xFEBA#16 ∧ (0x41#8 : Byte) ≠ 0x00#8 := by decide

theorem witness_CodecRoundTrip : 0x06#8 ∈ params.knownCodes ∧ 0x7E#8 ∉ params.knownCodes := by decide

theorem witness_FrameKindByCommandByte :
    params.admissible = true ∧ frameKind params 0x41#8 = .ack ∧ frameKind params 0x40#8 = .error
      ∧ frameKind params 0x3D#8 = .info ∧ frameKind params 0x4A#8 = .unknown := by decide

theorem witness_ClassifierFollowsItsMap :
    (0x04#8, ModuleFault.checksum) ∈ params.moduleErrorMap
      ∧ (∀ k', (0x04#8, k') ∈ params.moduleErrorMap → k' = .checksum)
      ∧ (∀ k, (0x09#8, k) ∉ params.moduleErrorMap) ∧ ∀ b, Result.badChecksum 0x04#8 ≠ .moduleError b := by
  refine ⟨by decide, fun k' => by cases k' <;> decide, fun k => by cases k <;> decide, fun _ => by simp⟩

theorem witness_ScannerDropsGarbageBeforeAFrame :
    Config.startMark ∉ [0x00#8, 0x13#8, 0xEF#8, 0xFF#8] ∧ ackFrame.start = Config.startMark
      ∧ ackFrame.stop = Config.endMark := by decide

theorem witness_ScannerReassemblesSplitFrames :
    (scanAll .awaitingStart zeroFrame (ackFrame.bytes.take 1)).2.1 = .acc1
      ∧ (scanAll .awaitingStart zeroFrame (ackFrame.bytes.take 9)).2.1 = .awaitingEnd
      ∧ ackFrame.start = Config.startMark ∧ ackFrame.stop = Config.endMark := by decide

theorem witness_ScannerResynchronises :
    ackFrame.start = Config.startMark ∧ (0x7E#8 : Byte) ≠ Config.endMark ∧ (0x00#8 : Byte) ≠ Config.endMark := by decide

/-- Markers 1, 2 and 9 bytes before the frame, and a frame whose byte in the false end's place is the end marker. -/
theorem witness_FalseStartMarkerLosesTheFrame :
    ackFrame.start = Config.startMark ∧ ackFrame.stop = Config.endMark
      ∧ ackFrame.bytes[8 - ([] : List Byte).length]? = some 0xBA#8 ∧ ackFrame.bytes[8 - [0x00#8].length]? = some 0xFE#8
      ∧ ackFrame.bytes[8 - (List.replicate 8 0x00#8).length]? = some 0x7E#8
      ∧ Config.startMark ∉ ackFrame.bytes.drop (9 - ([] : List Byte).length)
      ∧ { ackFrame with ckLo := 0xEF#8 }.bytes[8 - ([] : List Byte).length]? = some Config.endMark := by decide

/-- A dropped byte, a byte taken into a frame and a discarded frame; the last byte of a batch and one that is not. -/
theorem witness_UneventfulBytesLeaveTheSession :
    Steps (scanningByte .waitScan .awaitingStart zeroFrame 0x13#8) ∧ Ctrl.waitScan.scanning ∧ Ctrl.drainScan.scanning
      ∧ (scanningByte .waitScan .awaitingStart zeroFrame 0x13#8).nextByte? = some 0x13#8
      ∧ (scanningByte .waitScan .awaitingStart zeroFrame 0x13#8).scanEvent 0x13#8 = .drop
      ∧ (scanningByte .waitScan .acc3 ackFrame 0x7E#8).scanEvent 0x7E#8 = .none
      ∧ (scanningByte .drainScan .awaitingEnd ackFrame 0x00#8).scanEvent 0x00#8 = .resync
      ∧ after (scanningByte .waitScan .awaitingStart zeroFrame 0x13#8) (fun t => t.ctrl) = some .waitPoll
      ∧ after (scanningByte .drainScan .awaitingEnd ackFrame 0x00#8) (fun t => t.ctrl) = some .drainPoll
      ∧ after { scanningByte .waitScan .acc3 ackFrame 0x7E#8 with rxbLen := 2 } (fun t => t.ctrl) = some .waitScan := by
  refine ⟨⟨rfl, rfl⟩, .inl rfl, .inr rfl, rfl, rfl, rfl, rfl, rfl, rfl, rfl⟩

theorem no_init_waits {s : State} (h : s.env.channel = []) : ¬ InitTaken s := by
  rintro ⟨_, _, _, _, _, _, _, he, _⟩
  rw [h] at he
  cases he

theorem witness_FourWaysBackToAwaitingStart :
    ∃ t, step (lastByte .waitScan ackFrame) = .next t ∧ (lastByte .waitScan ackFrame).phase ≠ .awaitingStart
      ∧ t.phase = .awaitingStart := ⟨_, rfl, by decide, rfl⟩

theorem witness_ConfigurationChangesOnlyAtInit :
    ∃ t, step (lastByte .waitScan ackFrame) = .next t ∧ (lastByte .waitScan ackFrame).resetNow = false
      ∧ ¬ InitTaken (lastByte .waitScan ackFrame) := ⟨_, rfl, rfl, no_init_waits rfl⟩

/-- Both ways: an accepted write, and an `INIT` over a session. -/
theorem witness_LastSentWrittenOnlyByAcceptedWrite :
    (∃ t, step { running .tx (answers [] [] [.ok]) with lastSent := none } = .next t ∧ t.lastSent ≠ none)
      ∧ ∃ t, step { offering .idle (.word 0x10000000#32 0 0) with lastSent := some volume20 } = .next t
        ∧ t.lastSent ≠ some volume20 := by
  refine ⟨⟨_, rfl, by decide⟩, ⟨_, rfl, by decide⟩⟩

theorem witness_LastRespWrittenOnlyByValidFrame :
    (lastByte .waitScan ackFrame).resetNow = false
      ∧ (∃ t, step (lastByte .waitScan ackFrame) = .next t ∧ t.lastResp ≠ (lastByte .waitScan ackFrame).lastResp)
      ∧ ∃ t, step { offering .idle (.word 0x10000000#32 0 0) with lastResp := some volume20 } = .next t
        ∧ t.lastResp ≠ some volume20 := by
  refine ⟨rfl, ⟨_, rfl, by decide⟩, ⟨_, rfl, by decide⟩⟩

/-- `ACK_SEEN` set by the acknowledgement, cleared by a write. -/
theorem witness_AckSeenWrittenByWriteAndAckOnly :
    (∃ t, step (lastByte .waitScan ackFrame) = .next t ∧ (lastByte .waitScan ackFrame).ackSeen = false ∧ t.ackSeen = true)
      ∧ ∃ t, step { running .tx (answers [] [] [.ok]) with ackSeen := true } = .next t ∧ t.ackSeen = false := by
  refine ⟨⟨_, rfl, rfl, by decide⟩, ⟨_, rfl, by decide⟩⟩

theorem witness_ResultWrittenOnlyAtTheEnd :
    ∃ t, step (running .waitPending (answers [.notready] [] [])) = .next t
      ∧ (running .waitPending (answers [.notready] [] [])).busy = true ∧ t.ctrl = .idle ∧ t.result ≠ none := by
  refine ⟨_, rfl, by decide, by decide, by decide⟩

theorem witness_UninitLeftOnlyByInit :
    (∃ t, step (offering .uninit (.word 0x10000001#32 9 0)) = .next t ∧ t.ctrl ≠ .uninit)
      ∧ ∃ t, step { idle with ctrl := .uninit, env := answers [] [] [] } = .next t ∧ t.ctrl = .uninit := by
  refine ⟨⟨_, rfl, by decide⟩, ⟨_, rfl, rfl⟩⟩

/-- A busy engine with a request waiting, and an idle one that takes it. -/
theorem witness_BusyEngineTakesNoRequest :
    (∃ t, step { running .waitPoll (answers [.ready] [] []) with
          env := { answers [.ready] [] [] with channel := [.call .reset] } } = .next t ∧ t.env.channel = [.call .reset])
      ∧ ∃ t, step (offering .idle (.call .reset)) = .next t
        ∧ t.env.channel ≠ (offering .idle (.call .reset)).env.channel := by
  refine ⟨⟨_, rfl, rfl⟩, ⟨_, rfl, by decide⟩⟩

/-- Each sleep: the poll interval, the fixed delay, the settle time with and without an override. -/
theorem witness_TimeNeverGoesBack :
    after (running .waitSleep (answers [] [] [])) (fun t => t.env.now) = some 10
      ∧ after (running .nofbSleep (answers [] [] [])) (fun t => t.env.now) = some 20
      ∧ after { idle with ctrl := .initSettle, opOverride := some 3, env := answers [] [] [] } (fun t => t.env.now) = some 3
      ∧ after { idle with ctrl := .initSettle, env := answers [] [] [] } (fun t => t.env.now) = some 500 := by decide

theorem witness_WireGetsWholeFrames :
    Ctrl.tx.writing ∧ (running .tx (answers [] [] [.ok])).writeAnswer = .ok
      ∧ (running .tx (answers [] [] [.terr 1 3])).writeAnswer = .terr 1 3
      ∧ after (running .tx (answers [] [] [.ok])) (fun t => t.env.txStream.length) = some 10
      ∧ after (running .tx (answers [] [] [.terr 1 3])) (fun t => t.env.txStream.length) = some 3
      ∧ after (running .tx (answers [] [] [.terr 1 99])) (fun t => t.env.txStream.length) = some 10
      ∧ (running .tx { Env.reset with resets := [true] }).resetNow = true := by
  refine ⟨.inl rfl, rfl, rfl, rfl, rfl, rfl, rfl⟩

/-! #### States that meet the invariant -/

theorem inv_idle : idle.Inv := by
  constructor <;>
    first | rfl | decide | simp [idle, State.reset, Ctrl.taking, Ctrl.scanning, Ctrl.inSend, Ctrl.inWait, Ctrl.inDrain,
      Ctrl.writing, Ctrl.flushing]

theorem inv_tx : (running .tx (answers [] [] [.terr 1 3])).Inv := by
  constructor <;>
    first | rfl | decide | simp [running, idle, State.reset, Ctrl.taking, Ctrl.scanning, Ctrl.inSend, Ctrl.inWait,
      Ctrl.inDrain, Ctrl.writing, Ctrl.flushing]

theorem inv_waitPoll : (running .waitPoll { answers [.notready] [] [] with now := 1000 }).Inv := by
  constructor <;>
    first | rfl | decide | simp [running, idle, State.reset, answers, Ctrl.taking, Ctrl.scanning, Ctrl.inSend, Ctrl.inWait,
      Ctrl.inDrain, Ctrl.writing, Ctrl.flushing, volume20, params, Params.default]

theorem inv_drainPoll : (running .drainPoll (answers [.notready] [] [])).Inv := by
  constructor <;>
    first | rfl | decide | simp [running, idle, State.reset, Ctrl.taking, Ctrl.scanning, Ctrl.inSend, Ctrl.inWait,
      Ctrl.inDrain, Ctrl.writing, Ctrl.flushing, params, Params.default]

/-- The poll after a frame that was no acknowledgement (S4). -/
def pendingState : State :=
  { running .waitPending (answers [.notready] [] []) with lastResp := some ⟨0x3D#8, 0x00#8, 0x05#8⟩ }

theorem inv_pending : pendingState.Inv := by
  constructor <;>
    first | rfl | decide | simp [pendingState, running, idle, State.reset, answers, Ctrl.taking, Ctrl.scanning, Ctrl.inSend,
      Ctrl.inWait, Ctrl.inDrain, Ctrl.writing, Ctrl.flushing, volume20, params, Params.default]

/-- The fixed delay of the no-feedback path. -/
def sleepingState : State :=
  { running .nofbSleep (answers [] [] []) with params := { params with nofbPolicy := .fixedDelay } }

theorem inv_sleeping : sleepingState.Inv := by
  constructor <;>
    first | rfl | decide | simp [sleepingState, running, idle, State.reset, Ctrl.taking, Ctrl.scanning, Ctrl.inSend,
      Ctrl.inWait, Ctrl.inDrain, Ctrl.writing, Ctrl.flushing]

theorem inv_initSend (e : Env) : (nestedIn .initSend e).Inv := by
  constructor <;>
    first | rfl | decide | simp [nestedIn, idle, State.reset, Ctrl.taking, Ctrl.scanning, Ctrl.inSend, Ctrl.inWait,
      Ctrl.inDrain, Ctrl.writing, Ctrl.flushing, resetMd, params, Params.default]

/-- The reset `SEND` inside `INIT` after its write, a frame received. -/
def nestedAwaiting (c : Ctrl) (e : Env) : State :=
  { nestedIn c e with lastSent := some resetMd, lastResp := some ⟨0x3F#8, 0x00#8, 0x02#8⟩ }

/-- The states of a nested `SEND` that ask the transport for bytes. -/
theorem inv_nestedAwaiting (c : Ctrl) (e : Env)
    (hc : c = .waitPoll ∨ c = .waitPending ∨ c = .drainPoll ∨ c = .waitRead ∨ c = .drainRead) : (nestedAwaiting c e).Inv := by
  rcases hc with rfl | rfl | rfl | rfl | rfl <;> constructor <;>
    first | rfl | decide | simp [nestedAwaiting, nestedIn, idle, State.reset, Ctrl.taking, Ctrl.scanning, Ctrl.inSend,
      Ctrl.inWait, Ctrl.inDrain, Ctrl.writing, Ctrl.flushing, resetMd, params, Params.default]

def secondFlush : State := { idle with ctrl := .initFlush2, env := answers [.notready] [] [] }

theorem inv_secondFlush : secondFlush.Inv := by
  constructor <;>
    first | rfl | decide | simp [secondFlush, idle, State.reset, Ctrl.taking, Ctrl.scanning, Ctrl.inSend, Ctrl.inWait,
      Ctrl.inDrain, Ctrl.writing, Ctrl.flushing]

/-- One ending state for each path. -/
theorem witness_ResultsByPath :
    (∃ t, step (running .tx (answers [] [] [.terr 1 3])) = .next t ∧ t.ctrl = .idle)
      ∧ (∃ t, step (running .waitPoll { answers [.notready] [] [] with now := 1000 }) = .next t ∧ t.ctrl = .idle)
      ∧ (∃ t, step (running .drainPoll (answers [.notready] [] [])) = .next t ∧ t.ctrl = .idle)
      ∧ (∃ t, step sleepingState = .next t ∧ t.ctrl = .idle)
      ∧ (∃ t, step (nestedIn .initSend (answers [] [] [.terr 7 0])) = .next t ∧ t.ctrl = .idle)
      ∧ (∃ t, step secondFlush = .next t ∧ t.ctrl = .idle)
      ∧ (running .tx (answers [] [] [.terr 1 3])).Inv ∧ (running .drainPoll (answers [.notready] [] [])).Inv
      ∧ (running .waitPoll { answers [.notready] [] [] with now := 1000 }).Inv ∧ sleepingState.Inv
      ∧ (nestedIn .initSend (answers [] [] [.terr 7 0])).Inv ∧ secondFlush.Inv := by
  refine ⟨⟨_, rfl, by decide⟩, ⟨_, rfl, by decide⟩, ⟨_, rfl, by decide⟩, ⟨_, rfl, by decide⟩, ⟨_, rfl, by decide⟩,
    ⟨_, rfl, by decide⟩, inv_tx, inv_drainPoll, inv_waitPoll, inv_sleeping, inv_initSend _, inv_secondFlush⟩

theorem witness_FailedAckOnlyAtNaturalTermination :
    pendingState.resetNow = false ∧ pendingState.Inv ∧ pendingState.busy = true
      ∧ ∃ t, step pendingState = .next t ∧ t.ctrl = .idle ∧ t.result = some .failedAck :=
  ⟨rfl, inv_pending, rfl, _, rfl, by decide, by decide⟩

/-- Every nested state that asks the transport for bytes, with the error it can get, and both answers of the write. -/
theorem witness_NestedSendReturnsToInit :
    Steps (nestedIn .initSend (answers [] [] [.terr 7 0])) ∧ (nestedIn .initSend (answers [] [] [.terr 7 0])).Inv
      ∧ (nestedIn .initSend (answers [] [] [.ok])).Inv ∧ (nestedIn .initSend (answers [] [] [.ok])).nested = true
      ∧ after (nestedIn .initSend (answers [] [] [.terr 7 0])) (fun t => (t.ctrl, t.result, t.env.hostReply))
        = some (.idle, some (.init 7), some (.init 7))
      ∧ (∀ c : Ctrl, c = .waitPoll ∨ c = .waitPending ∨ c = .drainPoll →
          Steps (nestedAwaiting c (answers [.terr 9] [] [])) ∧ (nestedAwaiting c (answers [.terr 9] [] [])).Inv
            ∧ (nestedAwaiting c (answers [.terr 9] [] [])).nested = true
            ∧ (nestedAwaiting c (answers [.terr 9] [] [])).pollAnswer = .terr 9)
      ∧ (∀ c : Ctrl, c = .waitRead ∨ c = .drainRead →
          Steps (nestedAwaiting c (answers [] [.terr 9] [])) ∧ (nestedAwaiting c (answers [] [.terr 9] [])).Inv
            ∧ (nestedAwaiting c (answers [] [.terr 9] [])).nested = true
            ∧ (nestedAwaiting c (answers [] [.terr 9] [])).readAnswer = .terr 9) := by
  refine ⟨⟨rfl, rfl⟩, inv_initSend _, inv_initSend _, rfl, rfl,
    fun c hc => ⟨⟨rfl, rfl⟩, inv_nestedAwaiting c _ ?_, rfl, rfl⟩, fun c hc => ⟨⟨rfl, rfl⟩, inv_nestedAwaiting c _ ?_, rfl, rfl⟩⟩
  · rcases hc with hc | hc | hc <;> simp [hc]
  · rcases hc with hc | hc <;> simp [hc]

theorem witness_EveryStepKeepsTheInvariant :
    pendingState.Inv ∧ (∃ t, step pendingState = .next t) ∧ idle.Inv ∧ ∃ t, step idle = .next t :=
  ⟨inv_pending, ⟨_, rfl⟩, inv_idle, ⟨_, rfl⟩⟩

/-! #### Host requests -/

theorem witness_requests :
    idle.ctrl = .idle ∧ idle.ctrl.taking ∧ State.reset.ctrl = .uninit ∧ State.reset.ctrl.taking :=
  ⟨rfl, .inl rfl, rfl, .inr rfl⟩

theorem witness_SendIsAcceptedInIdle : idle.ctrl = .idle := rfl

theorem witness_InitIsAccepted : idle.ctrl.taking ∧ State.reset.ctrl.taking := ⟨.inl rfl, .inr rfl⟩

/-- Both sides of both bounds, and the two bytes of a track number. -/
theorem witness_WrappersExpandToSend :
    idle.ctrl = .idle ∧ (30#8).toNat ≤ 30 ∧ 30 < (31#8).toNat ∧ (2999#16).toNat ≤ 2999 ∧ 2999 < (3000#16).toNat
      ∧ (2999#16).toNat = (0x0B#8).toNat * 256 + (0xB7#8).toNat := by decide

theorem witness_BadParameterTouchesNothing : 30 < (31#8).toNat ∧ 2999 < (3000#16).toNat := by decide

theorem witness_WrappersBeforeInitAreRefused :
    State.reset.ctrl = .uninit ∧ exec (.callSetVolume 30#8) State.reset = .refused .requestBeforeInit
      ∧ exec (.callPlayTrack 2999#16) State.reset = .refused .requestBeforeInit := ⟨rfl, rfl, rfl⟩

theorem witness_EngineAtRestWaits :
    Steps idle ∧ idle.ctrl.taking ∧ idle.env.channel = [] ∧ Steps State.reset ∧ State.reset.ctrl.taking :=
  ⟨⟨rfl, rfl⟩, .inl rfl, rfl, ⟨rfl, rfl⟩, .inr rfl⟩

/-! #### The write and the wait -/

/-- The four kinds of path: wait with and without an acknowledgement, drain, fixed delay. -/
theorem witness_SuccessfulWriteTakesItsPath :
    Steps (running .tx (answers [] [] [.ok])) ∧ Ctrl.tx.writing ∧ Ctrl.initSend.writing
      ∧ (running .tx (answers [] [] [.ok])).writeAnswer = .ok
      ∧ after (running .tx (answers [] [] [.ok])) (fun t => (t.ctrl, t.waitAckreq)) = some (.waitPoll, true)
      ∧ after (nestedIn .initSend (answers [] [] [.ok])) (fun t => (t.ctrl, t.waitAckreq)) = some (.waitPoll, false)
      ∧ after { running .tx (answers [] [] [.ok]) with cfgFeedback := false } (fun t => t.ctrl) = some .drainPoll
      ∧ after { sleepingState with ctrl := .tx, cfgFeedback := false, env := answers [] [] [.ok] } (fun t => t.ctrl)
        = some .nofbSleep
      ∧ after { nestedIn .initSend (answers [] [] [.ok]) with params := { params with resetWaits := false } }
          (fun t => t.ctrl) = some .drainPoll := by
  refine ⟨⟨rfl, rfl⟩, .inl rfl, .inr rfl, rfl, rfl, rfl, rfl, rfl, rfl⟩

/-- An error at each of the three kinds of call. -/
theorem witness_TransportErrorEndsSend :
    Steps (running .tx (answers [] [] [.terr 1 3])) ∧ (running .tx (answers [] [] [.terr 1 3])).nested = false
      ∧ (running .tx (answers [] [] [.terr 1 3])).writeAnswer = .terr 1 3
      ∧ (running .waitPending (answers [.terr 2] [] [])).pollAnswer = .terr 2
      ∧ (running .drainRead (answers [] [.terr 3] [])).readAnswer = .terr 3 := ⟨⟨rfl, rfl⟩, rfl, rfl, rfl, rfl⟩

theorem witness_TimeoutCheckedAtPollPoint :
    Steps (running .waitPoll { answers [.notready] [] [] with now := 1000 })
      ∧ (running .waitPoll { answers [.notready] [] [] with now := 1000 }).opTxFail = false
      ∧ (∀ e, (running .waitPoll { answers [.notready] [] [] with now := 1000 }).pollAnswer ≠ .terr e)
      ∧ (running .waitPoll (answers [.ready] [] [])).pollAnswer = .ready
      ∧ after { running .waitPoll { answers [.ready] [] [] with now := 1000 } with
          params := { params with timeoutCheckAlways := true } } (fun t => t.result) = some (some .userTimeout)
      ∧ after (nestedIn .waitPoll { answers [.notready] [] [] with now := 1000 }) (fun t => t.ctrl) = some .initSettle
      ∧ after { nestedIn .waitPoll (answers [.ready] [] []) with opOverride := some 7 }
          (fun t => (t.ctrl, t.nested, t.opMd, t.opOverride)) = some (.waitRead, true, resetMd, some 7)
      ∧ Steps (running .waitSleep (answers [] [] []))
      ∧ after (running .waitSleep (answers [] [] [])) (fun t => t.ctrl) = some .waitPoll := by
  refine ⟨⟨rfl, rfl⟩, rfl, fun e h => ?_, rfl, rfl, rfl, rfl, ⟨rfl, rfl⟩, rfl⟩
  have h' : PollAnswer.notready = .terr e := h
  cases h'

/-- A wait of 100 with 11 silent polls and a poll interval of 10. -/
theorem witness_SilenceEndsInUserTimeout :
    ∃ s : State, s.params.admissible = true ∧ s.env.resets = [] ∧ s.nested = false ∧ s.ctrl = .waitPoll
      ∧ s.env.polls = List.replicate (10 + 1) .notready ++ [] ∧ s.waitStart ≤ s.env.now
      ∧ s.cfgTimeout ≤ s.env.now - s.waitStart + 10 * s.params.pollInterval :=
  ⟨{ running .waitPoll { answers (List.replicate 11 .notready) [] [] with resets := [] } with cfgTimeout := 100 },
    rfl, rfl, rfl, rfl, rfl, by decide, by decide⟩

/-- An empty batch, a batch of one byte, and one longer than `RX_BATCH_MAX`. -/
theorem witness_ReadLoadsTheBatch :
    Steps (running .waitRead (answers [] [.batch []] []))
      ∧ (running .waitRead (answers [] [.batch []] [])).readAnswer = .batch []
      ∧ (running .drainRead (answers [] [.batch [0xEF#8]] [])).readAnswer = .batch [0xEF#8]
      ∧ after (running .waitRead (answers [] [.batch []] [])) (fun t => t.ctrl) = some .waitPoll
      ∧ after (running .drainRead (answers [] [.batch [0xEF#8]] [])) (fun t => (t.ctrl, t.rxbLen)) = some (.drainScan, 1)
      ∧ after (running .waitRead (answers [] [.batch (List.replicate 33 0xEF#8)] []))
          (fun t => (t.rxbLen, t.env.reads)) = some (32, [.batch [0xEF#8]])
      ∧ after (running .waitRead (answers [] [.batch (List.replicate 32 0xEF#8), .terr 1] []))
          (fun t => (t.rxbLen, t.env.reads)) = some (32, [.terr 1]) := by
  refine ⟨⟨rfl, rfl⟩, rfl, rfl, rfl, rfl, rfl, rfl⟩

theorem witness_NaturalTerminationChecksTheAck :
    Steps pendingState ∧ pendingState.ctrl = .waitPending ∧ pendingState.opTxFail = false
      ∧ pendingState.pollAnswer = .notready ∧ pendingState.waitAckreq = true ∧ pendingState.ackSeen = false
      ∧ (running .waitPending (answers [.ready] [] [])).pollAnswer = .ready := ⟨⟨rfl, rfl⟩, rfl, rfl, rfl, rfl, rfl, rfl⟩

/-! #### Received frames -/

theorem witness_UnknownCodeEndsTheOperation :
    (Instr.unknown 0x4A#8 someOps).frame? = some (0x4A#8, someOps) ∧ (running .waitScan Env.reset).ctrl.scanning
      ∧ (running .waitScan Env.reset).opTxFail = false ∧ 0x4A#8 ∉ (running .waitScan Env.reset).params.knownCodes :=
  ⟨rfl, .inl rfl, rfl, by decide⟩

theorem witness_BadChecksumEndsTheOperation :
    (Instr.next someOps).frame? = some (0x01#8, someOps) ∧ (running .drainScan Env.reset).ctrl.scanning
      ∧ 0x01#8 ∈ params.knownCodes ∧ ¬ ChecksumMatches params 0x01#8 someOps :=
  ⟨rfl, .inr rfl, by decide, by unfold ChecksumMatches; decide⟩

theorem witness_ErrorNotificationEndsTheOperation :
    Ctrl.waitScan.scanning ∧ (running .waitScan Env.reset).opTxFail = false ∧ params.admissible = true
      ∧ ChecksumMatches params 0x40#8 ⟨0xFF#8, 0x06#8, 0x00#8, 0x00#8, 0x04#8, 0xFE#8, 0xB7#8⟩ :=
  ⟨.inl rfl, rfl, rfl, by unfold ChecksumMatches; decide⟩

/-- The acknowledgement and an information frame, under each policy. -/
theorem witness_ValidFrameIsInterpreted :
    (Instr.ack someOps).frame? = some (0x41#8, someOps) ∧ 0x41#8 ∈ params.knownCodes
      ∧ ChecksumMatches params 0x41#8 someOps ∧ (0x41#8 : Byte) ≠ Config.errorCode
      ∧ ChecksumMatches params 0x3D#8 ⟨0xFF#8, 0x06#8, 0x00#8, 0x00#8, 0x05#8, 0xFE#8, 0xB9#8⟩
      ∧ after { lastByte .waitScan infoFrame with params := { params with waitPolicy := .anyFrame } } (fun t => t.result)
        = some (some .ok)
      ∧ after { lastByte .waitScan infoFrame with params := { params with waitPolicy := .strictAck } } (fun t => t.ctrl)
        = some .waitPoll
      ∧ after { lastByte .waitScan ackFrame with params := { params with waitPolicy := .strictAck } } (fun t => t.result)
        = some (some .ok)
      ∧ after (lastByte .drainScan infoFrame) (fun t => (t.ctrl, t.lastResp))
        = some (.drainPoll, some ⟨0x3D#8, 0x00#8, 0x05#8⟩) := by
  refine ⟨rfl, by decide, by unfold ChecksumMatches; decide, by decide, by unfold ChecksumMatches; decide, rfl, rfl, rfl, rfl⟩

theorem witness_FramesAreReadOnlyWhenScanning :
    (Instr.ack someOps).frame? = some (0x41#8, someOps) ∧ ¬ idle.ctrl.scanning :=
  ⟨rfl, by rintro (h | h) <;> cases h⟩

/-! #### The no-feedback path, `INIT`, reset and steps -/

theorem witness_NoFeedbackPathEndsWithOk :
    Steps sleepingState ∧ sleepingState.opTxFail = false ∧ sleepingState.ctrl = .nofbSleep
      ∧ (running .drainPoll (answers [.notready] [] [])).pollAnswer = .notready
      ∧ (running .drainPoll (answers [.ready] [] [])).pollAnswer = .ready := ⟨⟨rfl, rfl⟩, rfl, rfl, rfl, rfl⟩

/-- Each flush, each answer of its poll, and its read with a batch, an error and no answer yet. -/
theorem witness_FlushDropsWhatItReads :
    Steps secondFlush ∧ secondFlush.ctrl.flushing ∧ secondFlush.nested = false
      ∧ after secondFlush (fun t => t.result) = some (some .ok)
      ∧ after { secondFlush with ctrl := .initFlush1, opOverride := some 7 } (fun t => (t.ctrl, t.nested, t.opOverride))
        = some (.initSend, true, some 7)
      ∧ after { secondFlush with env := answers [.ready] [] [] } (fun t => t.flushRead) = some true
      ∧ after { secondFlush with flushRead := true, env := answers [] [.batch ackFrame.bytes, .terr 1] [] }
          (fun t => (t.result, t.phase, t.rxbLen, t.env.reads)) = some (some .ok, .awaitingStart, 0, [.terr 1])
      ∧ after { secondFlush with flushRead := true, env := answers [] [.terr 5] [] } (fun t => t.result) = some (some .ok)
      ∧ after { secondFlush with flushRead := true, env := answers [] [.suspended] [] } (fun t => t.ctrl)
        = some .initFlush2 := by
  refine ⟨⟨rfl, rfl⟩, .inr rfl, rfl, rfl, rfl, rfl, rfl, rfl, rfl⟩

theorem witness_SettleSleepLastsItsTime :
    Steps { idle with ctrl := .initSettle, opOverride := some 0 } ∧ Steps { idle with ctrl := .initSettle } :=
  ⟨⟨rfl, rfl⟩, ⟨rfl, rfl⟩⟩

theorem witness_AcknowledgedSendEndsWithOk :
    ∃ s : State, s.params.admissible = true ∧ s.env.resets = [] ∧ s.ctrl = .idle ∧ s.nested = false
      ∧ s.cfgFeedback = true ∧ s.params.waitPolicy = .untilIdle ∧ s.params.timeoutCheckAlways = false
      ∧ 10 ≤ s.params.rxBatchMax ∧ s.phase = .awaitingStart ∧ 0x06#8 ≠ s.params.resetCode
      ∧ s.env.channel = .word (encodeSendWord 0x06#8 0x00#8 0x14#8) 0 0 :: []
      ∧ s.env.writes = .ok :: [] ∧ s.env.polls = .ready :: .notready :: [] ∧ s.env.reads = .batch ackFrame.bytes :: [] :=
  ⟨{ idle with
      env :=
        { answers [.ready, .notready] [.batch ackFrame.bytes] [.ok] with
            resets := [], channel := [.word (encodeSendWord 0x06#8 0x00#8 0x14#8) 0 0] } },
    rfl, rfl, rfl, rfl, rfl, rfl, rfl, by decide, rfl, by decide, rfl, rfl, rfl, rfl⟩

theorem witness_BlockResetAbandonsTheOperation :
    (running .waitPoll { Env.reset with resets := [true] }).params.admissible = true
      ∧ (running .waitPoll { Env.reset with resets := [true] }).resetNow = true
      ∧ ¬ (running .waitPoll { Env.reset with resets := [true] }).ctrl.writing
      ∧ (running .tx { Env.reset with resets := [true] }).resetNow = true
      ∧ (running .tx { Env.reset with resets := [true] }).ctrl.writing :=
  ⟨rfl, rfl, by simp [running, Ctrl.writing], rfl, .inl rfl⟩

theorem witness_StepExecutesTheOfferedRequest :
    Steps (offering .idle (.call .reset)) ∧ (offering .idle (.call .reset)).ctrl.taking
      ∧ (offering .idle (.call .reset)).env.channel = [.call .reset]
      ∧ decodeHost (.call .reset) = .ok .callReset
      ∧ decodeHost (.word 0x10000001#32 9 0) = .ok (.init false true 9 0) := ⟨⟨rfl, rfl⟩, .inl rfl, rfl, rfl, rfl⟩

theorem witness_StepExecutesTheCompletedFrame :
    Steps (lastByte .waitScan ackFrame) ∧ (lastByte .waitScan ackFrame).ctrl.scanning
      ∧ (lastByte .waitScan ackFrame).phase = .awaitingEnd
      ∧ (lastByte .waitScan ackFrame).rxbIdx < (lastByte .waitScan ackFrame).rxbLen
      ∧ (lastByte .waitScan ackFrame).rxb[(lastByte .waitScan ackFrame).rxbIdx]? = some 0xEF#8
      ∧ decodeWire ((lastByte .waitScan ackFrame).fbuf.bytes.take 9 ++ [0xEF#8]) = .ok (.ack someOps) :=
  ⟨⟨rfl, rfl⟩, .inl rfl, rfl, by decide, rfl, rfl⟩

theorem witness_StatusViewShowsTheRegisters :
    (running .tx Env.reset).lastSent = some volume20 ∧ idle.lastSent = none ∧ idle.lastResp = none
      ∧ { idle with lastResp := some volume20 }.lastRespWord = 0x00060014#32 ∧ idle.timeoutView = 1000 := by decide

theorem witness_ResultWordShowsCodeAndDetail :
    { idle with result := some (.badChecksum 0x41#8) }.resultWord = 0x00014102#32
      ∧ { idle with result := some .userTimeout }.resultWord = 0x00010006#32 ∧ idle.resultWord = 0x00000000#32
      ∧ { idle with result := some .badParameter }.resultWord = 0x00010007#32
      ∧ { idle with result := some (.transport 5) }.result = some (.transport 5)
      ∧ { idle with result := some (.init 5) }.result = some (.init 5) := by decide

/-- A write, a read of the wait, of the drain and of a flush. -/
theorem witness_SuspendedCallsLeaveTheEngine :
    Steps (running .tx (answers [] [] [.suspended])) ∧ Ctrl.tx.writing
      ∧ (running .tx (answers [] [] [.suspended])).writeAnswer = .suspended
      ∧ (running .waitRead (answers [] [.suspended] [])).readAnswer = .suspended
      ∧ (running .drainRead (answers [] [.suspended] [])).readAnswer = .suspended
      ∧ { secondFlush with flushRead := true, env := answers [] [.suspended] [] }.ctrl.flushing
      ∧ after (running .tx (answers [] [] [.suspended, .ok])) (fun t => (t.ctrl, t.env.writes)) = some (.tx, [.ok])
      ∧ after (running .waitRead (answers [] [.suspended] [])) (fun t => t.ctrl) = some .waitRead := by
  refine ⟨⟨rfl, rfl⟩, .inl rfl, rfl, rfl, rfl, .inr rfl, rfl, rfl⟩

end Sys2Proof.Tests
end

section
/-! PROOFS. The parameters of 00_scope.md: which sets are admissible, and what the machine does with any other. -/

namespace Sys2Proof.Machine

/-- The classifier names a fault exactly when the map's entry for the byte does (44_error_classifier.md R190). -/
theorem classify_eq_named_iff {p : Params} {b : Byte} {f : ModuleFault} :
    classify p b = .named f ↔ p.moduleError? b = some f := by
  unfold classify
  cases p.moduleError? b <;> simp

/-- 00_scope.md R3, with the checksum condition read off the classifier. -/
theorem admissible_iff {p : Params} :
    p.admissible = true ↔
      Config.ackCode ∈ p.knownCodes ∧ Config.errorCode ∈ p.knownCodes ∧ p.resetCode ∈ p.knownCodes
        ∧ p.resetCode ≠ Config.ackCode ∧ p.resetCode ≠ Config.errorCode
        ∧ classify p Config.checksumFault = .named .checksum ∧ 0 < p.pollInterval ∧ 1 ≤ p.rxBatchMax := by
  simp [Params.admissible, classify_eq_named_iff, and_assoc, Nat.succ_le_iff]

theorem step_of_inadmissible {s : State} (h : s.params.admissible = false) :
    step s = .refused .inadmissibleParameters := by
  simp [step, engineStep, h]

/-- Settles O6: the Boolean check is R3's list of conditions, and a step makes that check before anything else. -/
theorem inadmissibleParametersAreRefused : Obligations.InadmissibleParametersAreRefused :=
  fun _ => ⟨admissible_iff, step_of_inadmissible⟩

end Sys2Proof.Machine
end

section
/-! PROOFS. Host request words: which words spell an operation (30_encoding.md R80, R81), and what a step at rest does with
the item the host offers. -/

namespace Sys2Proof.Machine

/-! ### The fields of a request word as numbers -/

theorem extractLsb'_eq_iff (w : Word32) (start len : Nat) (v : BitVec len) :
    w.extractLsb' start len = v ↔ w.toNat / 2 ^ start % 2 ^ len = v.toNat := by
  rw [← BitVec.toNat_inj, BitVec.extractLsb'_toNat, Nat.shiftRight_eq_div_pow]

theorem hreqOp_eq_iff (w : Word32) (v : BitVec 4) : hreqOp w = v ↔ w.toNat / 2 ^ 28 % 2 ^ 4 = v.toNat :=
  extractLsb'_eq_iff w 28 4 v

/-- The op field and the bits marked 0 of an `INIT` word, as a range of words. -/
theorem initFields_iff (w : Word32) :
    hreqOp w = 0x1#4 ∧ w.extractLsb' 2 26 = 0#26 ↔ 0x10000000 ≤ w.toNat ∧ w.toNat ≤ 0x10000003 := by
  rw [hreqOp_eq_iff, extractLsb'_eq_iff]
  simp only [BitVec.toNat_ofNat, Nat.reducePow, Nat.reduceMod]
  omega

/-- The op field and the bits marked 0 of a `SEND` word, as a range of words. -/
theorem sendFields_iff (w : Word32) :
    hreqOp w = 0x2#4 ∧ w.extractLsb' 24 4 = 0#4 ↔ 0x20000000 ≤ w.toNat ∧ w.toNat ≤ 0x20FFFFFF := by
  rw [hreqOp_eq_iff, extractLsb'_eq_iff]
  simp only [BitVec.toNat_ofNat, Nat.reducePow, Nat.reduceMod]
  omega

/-! ### What a request word decodes to -/

theorem decodeRequest_init {w : Word32} (h : 0x10000000 ≤ w.toNat ∧ w.toNat ≤ 0x10000003) (t d : Nat) :
    decodeRequest w t d = .ok (.init (w.getLsbD 1) (w.getLsbD 0) t d) := by
  obtain ⟨hop, hzero⟩ := (initFields_iff w).mpr h
  simp [decodeRequest, hop, hzero]

theorem decodeRequest_send {w : Word32} (h : 0x20000000 ≤ w.toNat ∧ w.toNat ≤ 0x20FFFFFF) (t d : Nat) :
    decodeRequest w t d = .ok (.send (hreqCmd w) (hreqPh w) (hreqPl w)) := by
  obtain ⟨hop, hzero⟩ := (sendFields_iff w).mpr h
  simp [decodeRequest, hop, hzero]

theorem decodeRequest_error {w : Word32} (hi : ¬ (0x10000000 ≤ w.toNat ∧ w.toNat ≤ 0x10000003))
    (hs : ¬ (0x20000000 ≤ w.toNat ∧ w.toNat ≤ 0x20FFFFFF)) (t d : Nat) :
    ∃ e, decodeRequest w t d = .error e := by
  rw [← initFields_iff] at hi
  rw [← sendFields_iff] at hs
  unfold decodeRequest
  split
  · rename_i hop
    exact ⟨_, if_neg fun hzero => hi ⟨hop, hzero⟩⟩
  · split
    · rename_i hop
      exact ⟨_, if_neg fun hzero => hs ⟨hop, hzero⟩⟩
    · exact ⟨_, rfl⟩

/-! ### A step at rest with an item offered -/

section AtRest

variable {s : State} {item : HostItem} {rest : List HostItem}
  (ha : s.params.admissible = true) (hr : s.resetNow = false) (hc : s.ctrl.taking) (hch : s.env.channel = item :: rest)
include ha hr hc

theorem step_eq_hostStep : step s = hostStep s.afterResetInput := by
  rw [step_eq_ctrlStep ha hr]
  rcases hc with hc | hc <;> simp [ctrlStep, hc]

include hch

/-- An item that decodes is executed in the step that takes it. -/
theorem step_of_decodeHost_ok {i : Instr} (h : decodeHost item = .ok i) :
    step s = exec i s.afterResetInput.takeItem := by
  simp [step_eq_hostStep ha hr hc, hostStep, hch, h]

/-- An item that does not decode is refused with the decoder's reason. -/
theorem step_of_decodeHost_error {e : DecodeError} (h : decodeHost item = .error e) :
    step s = .refused (.badRequest e) := by
  simp [step_eq_hostStep ha hr hc, hostStep, hch, h]

end AtRest

/-! ### The two requests when offered -/

theorem exec_init (ov fb : Bool) (timeout delay : Nat) (s : State) :
    exec (.init ov fb timeout delay) s = s.offerInit fb timeout (overrideOf ov delay) := rfl

theorem exec_send (cmd ph pl : Byte) (s : State) : exec (.send cmd ph pl) s = s.offerSend ⟨cmd, ph, pl⟩ := rfl

theorem offerSend_of_idle {s : State} (h : s.ctrl = .idle) (md : MessageData) : s.offerSend md = .next (s.startSend md) := by
  simp [State.offerSend, h]

theorem offerSend_of_uninit {s : State} (h : s.ctrl = .uninit) (md : MessageData) :
    s.offerSend md = .refused .requestBeforeInit := by
  simp [State.offerSend, h]

theorem busy_of_taking {s : State} (h : s.ctrl.taking) : s.busy = false := by
  rcases h with h | h <;> simp [State.busy, h]

theorem offerInit_of_taking {s : State} (h : s.ctrl.taking) (fb : Bool) (timeout : Nat) (override : Option Nat) :
    s.offerInit fb timeout override = .next (s.startInit fb timeout override) := by
  simp [State.offerInit, busy_of_taking h]

/-- Settles O5: the decoder accepts the two ranges of words and no other, and the step executes what it accepts. -/
theorem malformedAndEarlyRequestsAreRefused : Obligations.MalformedAndEarlyRequestsAreRefused := by
  intro s w t d rest ha hr hc hch
  refine ⟨fun ⟨hi, hs⟩ => ?malformed, fun hu h1 h2 => ?early, fun h1 h2 => ?init, fun hidle h1 h2 => ?send⟩
  case malformed =>
    obtain ⟨e, he⟩ := decodeRequest_error hi hs t d
    exact ⟨e, step_of_decodeHost_error ha hr hc hch he⟩
  case early =>
    rw [step_of_decodeHost_ok ha hr hc hch (decodeRequest_send ⟨h1, h2⟩ t d), exec_send, offerSend_of_uninit]
    simpa using hu
  case init =>
    rw [step_of_decodeHost_ok ha hr hc hch (decodeRequest_init ⟨h1, h2⟩ t d), exec_init, offerInit_of_taking]
    · exact ⟨_, rfl, rfl⟩
    · simpa using hc
  case send =>
    rw [step_of_decodeHost_ok ha hr hc hch (decodeRequest_send ⟨h1, h2⟩ t d), exec_send, offerSend_of_idle]
    · exact ⟨_, rfl, rfl⟩
    · simpa using hidle

end Sys2Proof.Machine
end

section
/-! PROOFS. The checksum unit of 40_checksum.md: what `CKSUM` computes, and why the encoder's frames pass the check. -/

namespace Sys2Proof.Machine

section Cksum

variable {p0 p1 p2 p3 p4 p5 : Byte}

/-- 40_checksum.md R100: without the correction, the 16-bit negation of the payload sum. -/
theorem cksum_false_toNat :
    (cksum false p0 p1 p2 p3 p4 p5).toNat
      = (65536 - (p0.toNat + p1.toNat + p2.toNat + p3.toNat + p4.toNat + p5.toNat) % 65536) % 65536 := by
  simp [cksum]

/-- 40_checksum.md R101: a zero command byte adds 2 to the result. -/
theorem cksum_true_of_cmd_zero (h : p2 = 0x00#8) :
    cksum true p0 p1 p2 p3 p4 p5 = cksum false p0 p1 p2 p3 p4 p5 + 2#16 := by
  apply BitVec.eq_of_toNat_eq
  rw [BitVec.toNat_add, cksum_false_toNat]
  simp [cksum, h]

/-- 40_checksum.md R101: any other command byte leaves the result uncorrected. -/
theorem cksum_true_of_cmd_ne_zero (h : p2 ≠ 0x00#8) :
    cksum true p0 p1 p2 p3 p4 p5 = cksum false p0 p1 p2 p3 p4 p5 := by
  simp [cksum, h]

/-- 40_checksum.md R104, for the default setting. -/
theorem eq_cksum_false_iff (c : Word16) :
    c = cksum false p0 p1 p2 p3 p4 p5
      ↔ (p0.toNat + p1.toNat + p2.toNat + p3.toNat + p4.toNat + p5.toNat + c.toNat) % 65536 = 0 := by
  rw [← BitVec.toNat_inj, cksum_false_toNat]
  omega

end Cksum

/-- Settles O7: the uncorrected checksum is the negated sum, and the correction adds 2 to it for a zero command byte only. -/
theorem checksumCompletesTheSum : Obligations.ChecksumCompletesTheSum := by
  intro p0 p1 p2 p3 p4 p5 sum
  have hsum : (sum + (cksum false p0 p1 p2 p3 p4 p5).toNat) % 65536 = 0 :=
    (eq_cksum_false_iff _).mp rfl
  refine ⟨eq_cksum_false_iff, fun hzero => ?corrected, fun hne => ?uncorrected⟩
  case corrected =>
    rw [cksum_true_of_cmd_zero hzero, BitVec.toNat_add, BitVec.toNat_ofNat]
    omega
  case uncorrected => rwa [cksum_true_of_cmd_ne_zero hne]

/-- 40_checksum.md R103: the checksum bytes the encoder writes spell the checksum of the frame's own payload. -/
theorem cat16_encodeFrame_ck (corr : Bool) (md : MessageData) (fb : Bool) :
    cat16 (encodeFrame corr md fb).ckHi (encodeFrame corr md fb).ckLo = frameCksum corr (encodeFrame corr md fb) :=
  cat16_hi8_lo8 _

/-- Settles O8: the encoder and the check compute one checksum, and its two bytes give it back. -/
theorem encodedFramePassesTheCheck : Obligations.EncodedFramePassesTheCheck := by
  intro corr md fb
  rw [cksumCheck, cat16_encodeFrame_ck, beq_self_eq_true]

end Sys2Proof.Machine
end

section
/-! PROOFS. The frame codec of 41_codec.md: what `DECODE` answers on each side of the catalogue test, and on an encoded
frame. -/

namespace Sys2Proof.Machine

/-! ### The two answers of `DECODE` -/

/-- 41_codec.md R111: a code in the catalogue gives the frame's contents and the checksum verdict. -/
theorem decodeOutput_of_known {p : Params} {f : Frame} (h : f.cmd ∈ p.knownCodes) :
    decodeOutput p f
      = .decoded (Frame.message f) f.fb (cat16 f.ckHi f.ckLo) (cksumCheck p.cksumZeroCmdCorrection f) :=
  if_pos (List.contains_iff_mem.mpr h)

/-- 41_codec.md R112: any other code is all that is reported of its frame. -/
theorem decodeOutput_of_unknown {p : Params} {f : Frame} (h : f.cmd ∉ p.knownCodes) :
    decodeOutput p f = .unknown f.cmd :=
  if_neg (mt List.contains_iff_mem.mp h)

/-! ### The fields of an encoded frame (41_codec.md R110) -/

section EncodedFrame

variable (corr : Bool) (md : MessageData) (fb : Bool)

@[simp] theorem encodeFrame_fb : (encodeFrame corr md fb).fb = feedbackByte fb := rfl

@[simp] theorem message_encodeFrame : Frame.message (encodeFrame corr md fb) = md := rfl

theorem frameCksum_encodeFrame :
    frameCksum corr (encodeFrame corr md fb)
      = cksum corr Config.version Config.length md.cmd (feedbackByte fb) md.ph md.pl := rfl

end EncodedFrame

/-- Settles O9: the encoded frame carries the message and passes its own check; only the catalogue test tells the two
answers apart. -/
theorem codecRoundTrip : Obligations.CodecRoundTrip := by
  intro p cmd ph pl fb fbbyte out
  refine ⟨fun hknown => ?known, fun hunknown => ?unknown⟩
  case known =>
    have hcheck := encodedFramePassesTheCheck p.cksumZeroCmdCorrection ⟨cmd, ph, pl⟩ fb
    have hdecode : out = _ := decodeOutput_of_known hknown
    rw [hdecode, message_encodeFrame, encodeFrame_fb, cat16_encodeFrame_ck, frameCksum_encodeFrame, hcheck]
    rfl
  case unknown => exact decodeOutput_of_unknown hunknown

end Sys2Proof.Machine
end

section
/-! PROOFS. The stream scanner of 42_scanner.md on the bytes of a frame: where it stands inside a frame, and what the byte in
the end marker's place does. -/

namespace Sys2Proof.Machine

/-! ### Inside a frame -/

/-- Once a frame has begun, every byte up to the ninth moves the phase one position on (42_scanner.md R132). -/
theorem code_scanAll_of_started {p : Phase} {f : Frame} {l : List Byte} (hp : p ≠ .awaitingStart)
    (hl : p.code.toNat + l.length ≤ 9) : (scanAll p f l).2.1.code.toNat = p.code.toNat + l.length := by
  induction l generalizing p f with
  | nil => rfl
  | cons b l ih =>
    rw [List.length_cons] at hl ⊢
    have hstep : (scan p f b).2.1 ≠ .awaitingStart ∧ (scan p f b).2.1.code.toNat = p.code.toNat + 1 := by
      cases p
      case awaitingStart => contradiction
      case awaitingEnd => simp [Phase.code] at hl
      all_goals exact ⟨Phase.noConfusion, rfl⟩
    obtain ⟨hstarted, hcode⟩ := hstep
    rw [scanAll, ih hstarted (by omega), hcode]
    omega

/-- 42_scanner.md R131: in `AwaitingStart` a start marker begins a frame. -/
theorem scanAll_startMark_cons (f : Frame) (l : List Byte) :
    (scanAll .awaitingStart f (Config.startMark :: l)).2
      = (scanAll .acc1 { f with start := Config.startMark } l).2 := rfl

section Frame

variable {old f : Frame} (hstart : f.start = Config.startMark)
include hstart

/-- Inside a frame the phase code is the number of its bytes taken (10_state.md R28). -/
theorem code_scanAll_take {k : Nat} (h1 : 1 ≤ k) (h9 : k ≤ 9) :
    (scanAll .awaitingStart old (f.bytes.take k)).2.1.code.toNat = k := by
  obtain ⟨n, rfl⟩ := Nat.exists_eq_add_of_le' h1
  have hlength : (f.bytes.tail.take n).length = n := by
    simp [Frame.bytes]
    omega
  have htake : f.bytes.take (n + 1) = Config.startMark :: f.bytes.tail.take n := by simp [Frame.bytes, hstart]
  have hacc1 : Phase.acc1.code.toNat = 1 := rfl
  rw [htake, scanAll_startMark_cons, code_scanAll_of_started Phase.noConfusion (by omega)]
  omega

/-- The first nine bytes of a frame fill the buffer up to the end marker's place (42_scanner.md R131, R132). -/
theorem scanAll_take_nine :
    scanAll .awaitingStart old (f.bytes.take 9)
      = (List.replicate 9 .none, .awaitingEnd, { f with stop := old.stop }) := by
  simp [Frame.bytes, hstart, scanAll, scan, List.replicate]

/-- Scanning goes on behind the first nine bytes of a frame. -/
theorem scanAll_take_nine_append (l : List Byte) :
    scanAll .awaitingStart old (f.bytes.take 9 ++ l)
      = (List.replicate 9 .none ++ (scanAll .awaitingEnd { f with stop := old.stop } l).1,
          (scanAll .awaitingEnd { f with stop := old.stop } l).2) := by
  rw [scanAll_append, scanAll_take_nine hstart]

/-- 42_scanner.md R133: a frame with both its markers completes at its last byte and stands in the buffer. -/
theorem scanAll_bytes (hstop : f.stop = Config.endMark) :
    scanAll .awaitingStart old f.bytes = (List.replicate 9 .none ++ [.complete], .awaitingStart, f) := by
  have hbytes : f.bytes = f.bytes.take 9 ++ [Config.endMark] := by simp [Frame.bytes, hstop]
  rw [hbytes, scanAll_take_nine_append hstart]
  simp [scanAll, scan, ← hstop]

end Frame

/-! ### The byte in the end marker's place -/

/-- 42_scanner.md R134: any byte but the end marker discards the partial frame and leaves the buffer as it is. -/
theorem scan_awaitingEnd_of_ne {b : Byte} (hb : b ≠ Config.endMark) (f : Frame) :
    scan .awaitingEnd f b = (.resync, .awaitingStart, f) := if_neg hb

/-- 42_scanner.md R131: in `AwaitingStart` the phase moves on with the start marker only. -/
theorem scan_awaitingStart_phase (f : Frame) (b : Byte) :
    (scan .awaitingStart f b).2.1 = if b = Config.startMark then .acc1 else .awaitingStart := by
  by_cases hb : b = Config.startMark <;> simp [scan, hb]

/-! ### The scanner's claims -/

/-- Settles O13: the garbage leaves the scanner as it was, so the frame is scanned as if it came first. -/
theorem scannerDropsGarbageBeforeAFrame : Obligations.ScannerDropsGarbageBeforeAFrame := by
  intro g old f hg hstart hstop
  rw [scanAll_append, scanAll_drops old g hg, scanAll_bytes hstart hstop, List.append_assoc]

/-- Settles O14: scanning the parts one after the other is scanning the whole, and the whole completes. -/
theorem scannerReassemblesSplitFrames : Obligations.ScannerReassemblesSplitFrames := by
  intro old f k hstart hstop h1 h9 a b
  have hwhole : (a.1 ++ b.1, b.2) = scanAll .awaitingStart old f.bytes := by
    rw [← scanAll_append, List.take_append_drop]
  obtain ⟨hevents, hend⟩ := Prod.mk.inj (hwhole.trans (scanAll_bytes hstart hstop))
  exact ⟨code_scanAll_take hstart h1 h9, hwhole, hevents, hend⟩

/-- Settles O15: nine bytes bring the scanner to the end marker's place; the wrong byte there sends it back to
`AwaitingStart`, where the next byte is tested. -/
theorem scannerResynchronises : Obligations.ScannerResynchronises := by
  intro old f b next hstart hb
  refine ⟨?resync, ?nextByte⟩
  case resync => rw [scanAll_take_nine_append hstart, scanAll, scan_awaitingEnd_of_ne hb, scanAll]
  case nextByte =>
    rw [scanAll_take_nine_append hstart, scanAll, scan_awaitingEnd_of_ne hb, scanAll, scanAll,
      scan_awaitingStart_phase]

end Sys2Proof.Machine
end

section
/-! PROOFS. `FAILED_ACK` (43_session.md R161, R162): which steps of the session engine can end an operation with it. -/

namespace Sys2Proof.Machine

/-- The host operation has ended and `RESULT` is `FAILED_ACK`. -/
def State.EndsWithFailedAck (t : State) : Prop := t.ctrl = .idle ∧ t.result = some .failedAck

/-! ### Ending an operation, and not ending it -/

/-- `finish X` ends the host operation with `FAILED_ACK` only if that is `X` and the operation is the host's own: the
nested `SEND` gives `INIT` its result or drops it (43_session.md R171). -/
@[simp] theorem finish_endsWithFailedAck_iff {s : State} {r : Result} :
    (s.finish r).EndsWithFailedAck ↔ s.nested = false ∧ r = .failedAck := by
  unfold State.finish
  split
  · rename_i hn
    unfold State.returnToInit
    split <;> simp [State.EndsWithFailedAck, hn]
  · rename_i hn
    simp [State.EndsWithFailedAck, hn]

/-- An operation that goes on has not ended, whatever `RESULT` an earlier one left. -/
theorem not_endsWithFailedAck_of_ctrl {t : State} (h : t.ctrl ≠ .idle) : ¬ t.EndsWithFailedAck :=
  fun ht => h ht.1

theorem ctrl_ne_idle_of_busy {s : State} (h : s.busy = true) : s.ctrl ≠ .idle := by
  intro hc
  simp [State.busy, hc] at h

theorem choosePath_ctrl_ne_idle (s : State) : s.choosePath.ctrl ≠ .idle := by
  unfold State.choosePath State.startNofb
  repeat' split
  all_goals simp

theorem continueScan_ctrl_ne_idle {s : State} (h : s.ctrl ≠ .idle) : s.continueScan.ctrl ≠ .idle := by
  unfold State.continueScan
  repeat' split
  all_goals simp [h]

/-! ### The steps that never end an operation with `FAILED_ACK` -/

section Steps

variable {s : State}

theorem waitPollStep_not_endsWithFailedAck : ¬ (waitPollStep s).EndsWithFailedAck := by
  unfold waitPollStep
  repeat' split
  case h_2.isFalse | h_3.isFalse => exact not_endsWithFailedAck_of_ctrl (by simp)
  all_goals simp

theorem drainPollStep_not_endsWithFailedAck : ¬ (drainPollStep s).EndsWithFailedAck := by
  unfold drainPollStep
  split
  · simp
  · simp
  · exact not_endsWithFailedAck_of_ctrl (by simp)

theorem nofbSleepStep_not_endsWithFailedAck : ¬ (nofbSleepStep s).EndsWithFailedAck := by
  simp [nofbSleepStep]

theorem afterFlush_not_endsWithFailedAck : ¬ s.afterFlush.EndsWithFailedAck := by
  unfold State.afterFlush
  split
  · exact not_endsWithFailedAck_of_ctrl (by simp)
  · simp

/-! In the steps below a call that has not returned, or a batch not yet exhausted, leaves `CTRL` where it is. -/

variable (hc : s.ctrl ≠ .idle)
include hc

theorem txStep_not_endsWithFailedAck : ¬ (txStep s).EndsWithFailedAck := by
  unfold txStep
  split
  · exact not_endsWithFailedAck_of_ctrl (by simpa using hc)
  · simp
  · exact not_endsWithFailedAck_of_ctrl (choosePath_ctrl_ne_idle _)

theorem readStep_not_endsWithFailedAck {scanning polling : Ctrl} (h₁ : scanning ≠ .idle) (h₂ : polling ≠ .idle) :
    ¬ (readStep s scanning polling).EndsWithFailedAck := by
  unfold readStep
  split
  · exact not_endsWithFailedAck_of_ctrl (by simpa using hc)
  · simp
  · exact not_endsWithFailedAck_of_ctrl (by rw [State.goto_ctrl]; split <;> assumption)

theorem flushStep_not_endsWithFailedAck : ¬ (flushStep s).EndsWithFailedAck := by
  unfold flushStep
  split
  case isTrue =>
    split
    · exact not_endsWithFailedAck_of_ctrl (by simpa using hc)
    · exact afterFlush_not_endsWithFailedAck
    · exact afterFlush_not_endsWithFailedAck
  case isFalse =>
    split
    · exact not_endsWithFailedAck_of_ctrl (by simpa using hc)
    · exact afterFlush_not_endsWithFailedAck
    · exact afterFlush_not_endsWithFailedAck

theorem waitPolicyEnd_not_endsWithFailedAck : ¬ s.waitPolicyEnd.EndsWithFailedAck := by
  unfold State.waitPolicyEnd
  split
  case h_1 => simp
  case h_2 =>
    split
    · simp
    · exact not_endsWithFailedAck_of_ctrl (continueScan_ctrl_ne_idle hc)
  case h_3 =>
    refine not_endsWithFailedAck_of_ctrl ?_
    split <;> simp [hc]

theorem interpret_not_endsWithFailedAck (m : MessageData) : ¬ (s.interpret m).EndsWithFailedAck := by
  have hkept : (s.keepResponse m).ctrl ≠ .idle := hc
  unfold State.interpret
  split
  · simp
  · split
    · exact waitPolicyEnd_not_endsWithFailedAck hkept
    · exact not_endsWithFailedAck_of_ctrl (continueScan_ctrl_ne_idle hkept)

theorem completeFrame_not_endsWithFailedAck (f : Frame) : ¬ (s.completeFrame f).EndsWithFailedAck := by
  unfold State.completeFrame
  split
  · simp
  · simp
  · exact interpret_not_endsWithFailedAck hc _

end Steps

/-! ### The one step that can -/

/-- 43_session.md R161: natural termination, with a required acknowledgement unseen. -/
theorem waitPendingStep_endsWithFailedAck {s : State} (h : (waitPendingStep s).EndsWithFailedAck) :
    s.pollAnswer = .notready ∧ s.waitAckreq = true ∧ s.ackSeen = false := by
  unfold waitPendingStep at h
  split at h
  · simp at h
  · exact absurd h (not_endsWithFailedAck_of_ctrl (by simp))
  · rename_i hpoll
    split at h
    · rename_i hmissing
      exact ⟨hpoll, by simpa [State.ackMissing] using hmissing⟩
    · simp at h

/-- Of all steps of a busy engine only the pending poll can end the operation with `FAILED_ACK`. -/
theorem eq_waitPendingStep_of_endsWithFailedAck {s t : State} (hb : s.busy = true) (hstep : StepCase s t)
    (h : t.EndsWithFailedAck) : s.ctrl = .waitPending ∧ t = waitPendingStep s := by
  have hidle : s.ctrl ≠ .idle := ctrl_ne_idle_of_busy hb
  have hrest (hc : s.ctrl.taking) : s.busy ≠ true := by simp [busy_of_taking hc]
  cases hstep with
  | waits hc => exact absurd hb (hrest hc)
  | init hc => exact absurd hb (hrest hc)
  | send _ hc => exact absurd hc hidle
  | badParameter hc => exact absurd hb (hrest hc)
  | tx => exact absurd h (txStep_not_endsWithFailedAck hidle)
  | waitPoll => exact absurd h waitPollStep_not_endsWithFailedAck
  | waitSleep => exact absurd h (not_endsWithFailedAck_of_ctrl (by simp))
  | waitRead => exact absurd h (readStep_not_endsWithFailedAck hidle nofun nofun)
  | waitPending hc => exact ⟨hc, rfl⟩
  | nofbSleep => exact absurd h nofbSleepStep_not_endsWithFailedAck
  | drainPoll => exact absurd h drainPollStep_not_endsWithFailedAck
  | drainRead => exact absurd h (readStep_not_endsWithFailedAck hidle nofun nofun)
  | flush => exact absurd h (flushStep_not_endsWithFailedAck hidle)
  | settle => exact absurd h (not_endsWithFailedAck_of_ctrl (by simp))
  | noByte => exact absurd h (not_endsWithFailedAck_of_ctrl (continueScan_ctrl_ne_idle hidle))
  | byte => exact absurd h (not_endsWithFailedAck_of_ctrl (continueScan_ctrl_ne_idle hidle))
  | frame _ b => exact absurd h (completeFrame_not_endsWithFailedAck (s := s.takeByte b) hidle _)

/-- Settles O29: the step is the pending poll, and the invariant says on what path a wait with a pending poll runs. -/
theorem failedAckOnlyAtNaturalTermination : Obligations.FailedAckOnlyAtNaturalTermination := by
  intro s t hst hr hinv hb hidle hresult
  obtain ⟨_, ⟨hreset, _⟩ | ⟨_, hcase⟩⟩ := step_next hst
  · simp [hr] at hreset
  have hends : t.EndsWithFailedAck := ⟨hidle, hresult⟩
  obtain ⟨hpending, rfl⟩ := eq_waitPendingStep_of_endsWithFailedAck (s := s.afterResetInput) hb hcase hends
  obtain ⟨hpoll, hreq, hack⟩ := waitPendingStep_endsWithFailedAck hends
  obtain ⟨hpolicy, _⟩ := hinv.pending hpending
  obtain ⟨hfeedback, hcmd⟩ := hinv.waitPath (.inr (.inr (.inr (.inr hpending))))
  exact ⟨hpending, hpoll, hpolicy, hfeedback, hcmd.mp hreq, hreq, hack⟩

end Sys2Proof.Machine
end

section
/-! PROOFS. The error classifier of 44_error_classifier.md: the map's entry for a byte, what the classifier makes of it, and the
kind of a result. -/

namespace Sys2Proof.Machine

/-! ### The map's entry for a byte -/

theorem moduleError?_eq_none_iff {p : Params} {b : Byte} :
    p.moduleError? b = none ↔ ∀ f, (b, f) ∉ p.moduleErrorMap := by
  simp only [Params.moduleError?, Option.map_eq_none_iff, List.find?_eq_none, beq_iff_eq]
  constructor
  · intro h f hf
    exact h (b, f) hf rfl
  · rintro h ⟨_, f⟩ hf rfl
    exact h f hf

theorem mem_of_moduleError?_eq_some {p : Params} {b : Byte} {f : ModuleFault} (h : p.moduleError? b = some f) :
    (b, f) ∈ p.moduleErrorMap := by
  obtain ⟨⟨c, g⟩, hfind, rfl⟩ := Option.map_eq_some_iff.mp h
  obtain rfl : c = b := by simpa using List.find?_some hfind
  exact List.mem_of_find?_eq_some hfind

/-! ### What the classifier answers (R190, R192) -/

theorem classify_eq_unknown_iff {p : Params} {b : Byte} :
    classify p b = .unknown ↔ ∀ f, (b, f) ∉ p.moduleErrorMap := by
  rw [← moduleError?_eq_none_iff, classify]
  cases p.moduleError? b <;> simp

/-- A byte inside the map is classified by one of its own entries. -/
theorem exists_classify_eq_named_of_mem {p : Params} {b : Byte} {f : ModuleFault} (hf : (b, f) ∈ p.moduleErrorMap) :
    ∃ g, (b, g) ∈ p.moduleErrorMap ∧ classify p b = .named g := by
  cases hg : p.moduleError? b with
  | none => exact absurd hf (moduleError?_eq_none_iff.mp hg f)
  | some g => exact ⟨g, mem_of_moduleError?_eq_some hg, classify_eq_named_iff.mpr hg⟩

theorem classify_eq_named_of_unique {p : Params} {b : Byte} {f : ModuleFault} (hf : (b, f) ∈ p.moduleErrorMap)
    (huniq : ∀ f', (b, f') ∈ p.moduleErrorMap → f' = f) : classify p b = .named f := by
  obtain ⟨g, hg, hclass⟩ := exists_classify_eq_named_of_mem hf
  rw [hclass, huniq g hg]

/-- 44_error_classifier.md R191: each of the eight codes has its entry, and a byte that is none of them has no entry. -/
theorem classify_default (b : Byte) :
    classify Params.default b =
      if b = 0x01#8 then .named .busy else if b = 0x02#8 then .named .sleeping
      else if b = 0x03#8 then .named .serialReceiveError else if b = 0x04#8 then .named .checksum
      else if b = 0x05#8 then .named .trackOutOfRange else if b = 0x06#8 then .named .trackNotFound
      else if b = 0x07#8 then .named .insertionError else if b = 0x08#8 then .named .enterSleepFailed else .unknown := by
  split_ifs
  case neg => exact classify_eq_unknown_iff.mpr (by simp [Params.default, Config.moduleErrorMap, *])
  all_goals subst b; rfl

/-! ### The kind of a result (R192) -/

theorem kind?_moduleError (p : Params) (b : Byte) : (Result.moduleError b).kind? p = some (classify p b) := rfl

theorem kind?_eq_none {r : Result} (h : ∀ b, r ≠ .moduleError b) (p : Params) : r.kind? p = none := by
  cases r with
  | moduleError b => exact absurd rfl (h b)
  | _ => rfl

/-- Settles O12: the classifier by the map's entries for the byte, the default map's table, and the kind of a result. -/
theorem classifierFollowsItsMap : Obligations.ClassifierFollowsItsMap := by
  refine ⟨fun p b => ⟨classify_eq_unknown_iff.mpr, fun f => classify_eq_named_of_unique, ?_, kind?_moduleError p b, rfl⟩,
    fun p r h => kind?_eq_none h p, classify_default⟩
  rintro ⟨f, hf⟩ hunknown
  exact classify_eq_unknown_iff.mp hunknown f hf

end Sys2Proof.Machine
end

section
/-! PROOFS. The argument check of the two wrappers that have one (45_host_wrappers.md R202, R203, R207). -/

namespace Sys2Proof.Machine

theorem exec_callSetVolume_of_gt {v : Byte} (h : 30 < v.toNat) (s : State) :
    exec (.callSetVolume v) s = .next s.replyBadParameter :=
  have hrange : Config.volumeMax < v := BitVec.lt_def.mpr h
  if_pos hrange

theorem exec_callPlayTrack_of_gt {n : Word16} (h : 2999 < n.toNat) (s : State) :
    exec (.callPlayTrack n) s = .next s.replyBadParameter :=
  have hrange : Config.trackMax < n := BitVec.lt_def.mpr h
  if_pos hrange

/-- Settles O33: each wrapper's argument check fails before the state is looked at, and its reply is all that changes. -/
theorem badParameterTouchesNothing : Obligations.BadParameterTouchesNothing :=
  fun s => ⟨fun _ hv => exec_callSetVolume_of_gt hv s, fun _ hn => exec_callPlayTrack_of_gt hn s⟩

end Sys2Proof.Machine
end

section
/-! PROOFS. Encoding and decoding (30_encoding.md): each form of an instruction comes back from its encoding, and what
decodes is the encoding of what it decodes to. -/

namespace Sys2Proof

open Sys2Proof.Machine

/-! ### Frame rows -/

/-- A frame row is encoded as the frame of its code and operands. -/
theorem encode_of_frame? {i : Instr} {c : Byte} {o : FrameOps} (h : i.frame? = some (c, o)) :
    encode i = wireOf c o := by
  cases i
  case init | send | callSendRaw | callReset | callSetVolume | callPlayTrack | callSetEqualizer | callSetPlaybackSource
      | callSetLoopAll => cases h
  all_goals cases h; rfl

/-- The code and operands of a well-formed frame row pick that row out again (30_encoding.md R76). -/
theorem decodeFrame_frameOf {i : Instr} {c : Byte} {o : FrameOps} (h : i.frame? = some (c, o))
    (hwf : i.wellFormed = true) : decodeFrame (frameOf c o) = i := by
  cases i
  case init | send | callSendRaw | callReset | callSetVolume | callPlayTrack | callSetEqualizer | callSetPlaybackSource
      | callSetLoopAll => cases h
  case unknown code ops =>
    cases h
    have houtside : c ∉ Config.catalogue := by simpa [Instr.wellFormed] using hwf
    simp [decodeFrame, catalogueRows_find?_none houtside]
  all_goals cases h; rfl

theorem decode_encode_of_frame? {i : Instr} {c : Byte} {o : FrameOps} (h : i.frame? = some (c, o))
    (hwf : i.wellFormed = true) : decode (encode i) = .ok i := by
  rw [encode_of_frame? h, wireOf, decode, decodeWire_bytes rfl rfl, decodeFrame_frameOf h hwf]

/-! ### The two request words -/

theorem encodeInitWord_toNat (ov fb : Bool) :
    (encodeInitWord ov fb).toNat = 0x10000000 + ov.toNat * 2 + fb.toNat := by
  cases ov <;> cases fb <;> rfl

theorem decodeRequest_encodeInitWord (ov fb : Bool) (t d : Nat) :
    decodeRequest (encodeInitWord ov fb) t d = .ok (.init ov fb t d) := by
  cases ov <;> cases fb <;> rfl

theorem encodeSendWord_toNat (cmd ph pl : Byte) :
    (encodeSendWord cmd ph pl).toNat = 0x20000000 + cmd.toNat * 65536 + ph.toNat * 256 + pl.toNat := by
  rw [encodeSendWord, BitVec.toNat_ofNat]
  omega

/-- Each field of a `SEND` word is the byte it was made of (30_encoding.md R80). -/
theorem hreqFields_encodeSendWord (cmd ph pl : Byte) :
    hreqCmd (encodeSendWord cmd ph pl) = cmd ∧ hreqPh (encodeSendWord cmd ph pl) = ph
      ∧ hreqPl (encodeSendWord cmd ph pl) = pl := by
  simp only [hreqCmd, hreqPh, hreqPl, extractLsb'_eq_iff, encodeSendWord_toNat]
  omega

theorem decodeRequest_encodeSendWord (cmd ph pl : Byte) (t d : Nat) :
    decodeRequest (encodeSendWord cmd ph pl) t d = .ok (.send cmd ph pl) := by
  have hrange := encodeSendWord_toNat cmd ph pl
  obtain ⟨hcmd, hph, hpl⟩ := hreqFields_encodeSendWord cmd ph pl
  rw [decodeRequest_send ⟨by omega, by omega⟩, hcmd, hph, hpl]

/-- Settles O1: a frame row by its code, a request word by its fields, a wrapper call as it stands. -/
theorem encodeThenDecodeIsIdentity : Obligations.EncodeThenDecodeIsIdentity := by
  intro i hwf
  cases hf : i.frame? with
  | some r => exact decode_encode_of_frame? hf hwf
  | none =>
    cases i
    case init ov fb t d => exact decodeRequest_encodeInitWord ov fb t d
    case send cmd ph pl => exact decodeRequest_encodeSendWord cmd ph pl 0 0
    case callSendRaw | callReset | callSetVolume | callPlayTrack | callSetEqualizer | callSetPlaybackSource
        | callSetLoopAll => rfl
    all_goals cases hf

/-! ### What decodes is an encoding -/

/-- Every row of the catalogue is a well-formed instruction. -/
theorem catalogueRows_wellFormed : ∀ r ∈ catalogueRows, ∀ o, (r.2 o).wellFormed = true := by
  simp [catalogueRows, Instr.wellFormed]

/-- The decoder gives a code its own row, and `unknown` only to a code without one. -/
theorem decodeFrame_wellFormed (f : Frame) : (decodeFrame f).wellFormed = true := by
  unfold decodeFrame
  split
  · rename_i r h
    exact catalogueRows_wellFormed r (List.mem_of_find?_eq_some h) f.ops
  · rename_i h
    have houtside : f.cmd ∉ catalogueRows.map (fun r => r.1) := by
      rw [List.mem_map]
      rintro ⟨r, hr, hcode⟩
      exact List.find?_eq_none.mp h r hr (by simp [hcode])
    simpa [Instr.wellFormed, ← catalogueRows_codes] using houtside

/-- A frame between its markers is its code and operands. -/
theorem frameOf_cmd_ops {f : Frame} (hstart : f.start = Config.startMark) (hstop : f.stop = Config.endMark) :
    frameOf f.cmd f.ops = f := by
  cases f
  cases hstart
  cases hstop
  rfl

/-- What the decoder asks of bytes: a frame with both markers (30_encoding.md R78, R79). -/
theorem decodeWire_eq_ok {l : List Byte} {i : Instr} (h : decodeWire l = .ok i) :
    ∃ f : Frame, l = f.bytes ∧ f.start = Config.startMark ∧ f.stop = Config.endMark ∧ i = decodeFrame f := by
  unfold decodeWire at h
  split at h
  · cases h
  · rename_i f hf
    split at h
    · split at h
      · cases h
        exact ⟨f, (Frame.bytes_of_ofBytes? hf).symm, ‹_›, ‹_›, rfl⟩
      · cases h
    · cases h

/-- Settles O2: the bytes are those of a frame between its markers, and the row the decoder picks carries all but these. -/
theorem decodedWireEncodesBack : Obligations.DecodedWireEncodesBack := by
  intro l i h
  obtain ⟨f, rfl, hstart, hstop, rfl⟩ := decodeWire_eq_ok h
  refine ⟨decodeFrame_wellFormed f, ?_⟩
  rw [encode_of_frame? (decodeFrame_frame? f), wireOf, frameOf_cmd_ops hstart hstop]

theorem encodeInitWord_getLsbD {w : Word32} (h : 0x10000000 ≤ w.toNat ∧ w.toNat ≤ 0x10000003) :
    encodeInitWord (w.getLsbD 1) (w.getLsbD 0) = w := by
  have hbit (i : Nat) : (w.getLsbD i).toNat = w.toNat / 2 ^ i % 2 := by
    rw [← BitVec.testBit_toNat, Nat.toNat_testBit]
  apply BitVec.eq_of_toNat_eq
  rw [encodeInitWord_toNat, hbit, hbit]
  omega

theorem encodeSendWord_hreqFields {w : Word32} (h : 0x20000000 ≤ w.toNat ∧ w.toNat ≤ 0x20FFFFFF) :
    encodeSendWord (hreqCmd w) (hreqPh w) (hreqPl w) = w := by
  apply BitVec.eq_of_toNat_eq
  simp only [encodeSendWord_toNat, hreqCmd, hreqPh, hreqPl, BitVec.extractLsb'_toNat, Nat.shiftRight_eq_div_pow]
  omega

/-- Settles O3: only the two ranges of words decode, and in each the fields the decoder reads make up the word. -/
theorem decodedRequestEncodesBack : Obligations.DecodedRequestEncodesBack := by
  intro w t d i h
  by_cases hinit : 0x10000000 ≤ w.toNat ∧ w.toNat ≤ 0x10000003
  · rw [decodeRequest_init hinit] at h
    cases h
    exact .inl ⟨_, _, rfl, by rw [encode, encodeInitWord_getLsbD hinit]⟩
  · by_cases hsend : 0x20000000 ≤ w.toNat ∧ w.toNat ≤ 0x20FFFFFF
    · rw [decodeRequest_send hsend] at h
      cases h
      exact .inr ⟨_, _, _, rfl, by rw [encode, encodeSendWord_hreqFields hsend]⟩
    · obtain ⟨e, he⟩ := decodeRequest_error hinit hsend t d
      rw [he] at h
      cases h

/-! ### The frame a `SEND` puts on the wire -/

/-- Settles O11: the encoded frame has its markers in place and decodes to the row of its code with its own operands. -/
theorem sentFrameIsItsTableRow : Obligations.SentFrameIsItsTableRow := by
  intro corr cmd ph pl fb fbbyte c
  refine ⟨_, _, decodeWire_bytes rfl rfl, decodeFrame_frame? _, rfl, rfl, rfl, rfl, rfl, ?_⟩
  rw [← cat16_toNat]
  exact congrArg BitVec.toNat (cat16_hi8_lo8 c)

/-- Settles O4: seven words of the encoding tables, run through the decoder. -/
theorem tabledWordsDecode : Obligations.TabledWordsDecode :=
  ⟨rfl, rfl, rfl, rfl, rfl, rfl, rfl⟩

end Sys2Proof
end

section
/-! PROOFS. The invariant `State.Inv`, read control state by control state, and every step keeps it. -/

namespace Sys2Proof.Machine

/-! ### The invariant as one condition on the registers and one for each control state -/

/-- What the invariant asks of the registers in every control state. -/
def State.Core (s : State) : Prop :=
  s.params.admissible = true ∧ s.rxb.length = s.params.rxBatchMax ∧ s.rxbLen ≤ s.params.rxBatchMax
    ∧ s.rxbIdx ≤ s.rxbLen ∧ (s.phase ≠ .awaitingStart → s.fbuf.start = Config.startMark)
    ∧ s.result ≠ some .badParameter

/-- A `SEND` runs whose write was taken. -/
def State.Sent (s : State) : Prop :=
  (s.nested = true → s.opMd = resetMessage s.params) ∧ s.opTxFail = false ∧ s.flushRead = false
    ∧ s.lastSent = some s.opMd

/-- Such a `SEND` waits for its answer. -/
def State.Waiting (s : State) : Prop :=
  s.Sent ∧ s.waitStart ≤ s.env.now ∧ s.cfgFeedback = true ∧ (s.waitAckreq = true ↔ s.opMd.cmd ≠ s.params.resetCode)

/-- Such a `SEND` drains the received bytes. -/
def State.Draining (s : State) : Prop := s.Sent ∧ s.params.nofbPolicy = .drain

/-- What the invariant asks of the registers in the control state `c`. -/
def State.At (s : State) (c : Ctrl) : Prop :=
  match c with
  | .uninit => (s.rxbLen = 0 ∧ s.rxbIdx = 0) ∧ s.nested = false ∧ s.flushRead = false
      ∧ s.lastSent = none ∧ s.lastResp = none ∧ s.ackSeen = false ∧ s.phase = .awaitingStart ∧ s.result = none
  | .idle => (s.rxbLen = 0 ∧ s.rxbIdx = 0) ∧ s.nested = false ∧ s.flushRead = false
  | .tx => s.nested = false ∧ s.flushRead = false ∧ s.opTxFail = false
  | .initSend => s.nested = true ∧ s.opMd = resetMessage s.params ∧ s.flushRead = false ∧ s.opTxFail = false
  | .waitPoll | .waitSleep | .waitRead => s.Waiting
  | .waitScan => s.Waiting ∧ s.rxbIdx < s.rxbLen
  | .waitPending => s.Waiting ∧ s.params.waitPolicy = .untilIdle ∧ s.phase = .awaitingStart ∧ s.rxbIdx = s.rxbLen
      ∧ s.lastResp ≠ none
  | .nofbSleep => s.Sent ∧ s.params.nofbPolicy = .fixedDelay
  | .drainPoll | .drainRead => s.Draining
  | .drainScan => s.Draining ∧ s.rxbIdx < s.rxbLen
  | .initFlush1 | .initFlush2 => s.nested = false
  | .initSettle => s.nested = false ∧ s.flushRead = false

section At

variable {s : State} {c : Ctrl}

theorem at_inWait (h : s.At c) (hc : c.inWait) : s.Waiting := by
  rcases hc with rfl | rfl | rfl | rfl | rfl
  exacts [h, h, h, h.1, h.1]

theorem at_inDrain (h : s.At c) (hc : c.inDrain) : s.Draining := by
  rcases hc with rfl | rfl | rfl
  exacts [h, h, h.1]

theorem at_sent (h : s.At c) (hc : c.inWait ∨ c.inDrain ∨ c = .nofbSleep) : s.Sent := by
  rcases hc with hc | hc | rfl
  exacts [(at_inWait h hc).1, (at_inDrain h hc).1, h.1]

theorem at_scanning (h : s.At c) (hc : c.scanning) : s.rxbIdx < s.rxbLen := by
  rcases hc with rfl | rfl
  exacts [h.2, h.2]

theorem at_taking (h : s.At c) (hc : c.taking) : s.rxbLen = 0 ∧ s.rxbIdx = 0 := by
  rcases hc with rfl | rfl
  exacts [h.1, h.1]

theorem at_inSend_opTxFail (h : s.At c) (hc : c.inSend) : s.opTxFail = false := by
  rcases hc with (rfl | rfl) | hc
  exacts [h.2.2, h.2.2.2, (at_sent h hc).2.1]

/-- The return mark is set only in a `SEND`, and there only for the reset command. -/
theorem at_nested (h : s.At c) (hn : s.nested = true) : c.inSend ∧ c ≠ .tx ∧ s.opMd = resetMessage s.params := by
  have hsent (hc : c.inWait ∨ c.inDrain ∨ c = .nofbSleep) : c.inSend ∧ s.opMd = resetMessage s.params :=
    ⟨.inr hc, (at_sent h hc).1 hn⟩
  cases c <;> simp_all [State.At, Ctrl.inSend, Ctrl.writing, Ctrl.inWait, Ctrl.inDrain]

/-- A flush's read is due only in a flush. -/
theorem at_flushRead (h : s.At c) (hf : s.flushRead = true) : c.flushing := by
  have hsent : ¬ (c.inWait ∨ c.inDrain ∨ c = .nofbSleep) := fun hc => by simp [(at_sent h hc).2.2.1] at hf
  cases c <;> simp_all [State.At, Ctrl.flushing, Ctrl.inWait, Ctrl.inDrain]

end At

section Inv

variable {s : State} (h : s.Inv)
include h

theorem inv_core : s.Core := ⟨h.admissible, h.batchRoom, h.batchLen, h.batchIdx, h.started, h.ownResult⟩

theorem inv_nested (hc : ¬ (s.ctrl.inSend ∧ s.ctrl ≠ .tx)) : s.nested = false :=
  Bool.eq_false_of_not_eq_true fun hn => hc ⟨(h.nestedSend hn).1, (h.nestedSend hn).2.1⟩

theorem inv_flushRead (hc : ¬ s.ctrl.flushing) : s.flushRead = false :=
  Bool.eq_false_of_not_eq_true fun hf => hc (h.flushMark hf)

theorem inv_sent (hc : s.ctrl.inWait ∨ s.ctrl.inDrain ∨ s.ctrl = .nofbSleep) : s.Sent := by
  refine ⟨fun hn => (h.nestedSend hn).2.2, h.noTxFail (.inr hc), inv_flushRead h ?_, h.commandSent hc⟩
  rcases hc with (hc | hc | hc | hc | hc) | (hc | hc | hc) | hc <;> simp [Ctrl.flushing, hc]

theorem inv_waiting (hc : s.ctrl.inWait) : s.Waiting := ⟨inv_sent h (.inl hc), h.waitStarted hc, h.waitPath hc⟩

theorem inv_draining (hc : s.ctrl.inDrain) : s.Draining := ⟨inv_sent h (.inr (.inl hc)), h.nofbPath.1 hc⟩

theorem inv_at : s.At s.ctrl := by
  cases hc : s.ctrl
  case waitPoll | waitSleep | waitRead => exact inv_waiting h (by simp [Ctrl.inWait, hc])
  case waitScan => exact ⟨inv_waiting h (by simp [Ctrl.inWait, hc]), h.byteToScan (.inl hc)⟩
  case waitPending => exact ⟨inv_waiting h (by simp [Ctrl.inWait, hc]), h.pending hc⟩
  case drainPoll | drainRead => exact inv_draining h (by simp [Ctrl.inDrain, hc])
  case drainScan => exact ⟨inv_draining h (by simp [Ctrl.inDrain, hc]), h.byteToScan (.inr hc)⟩
  case nofbSleep => exact ⟨inv_sent h (.inr (.inr hc)), h.nofbPath.2 hc⟩
  case initSend =>
    have hn := h.initSendNested hc
    exact ⟨hn, (h.nestedSend hn).2.2, inv_flushRead h (by simp [Ctrl.flushing, hc]), h.noTxFail (.inl (.inr hc))⟩
  all_goals
    have hn : s.nested = false :=
      inv_nested h (by simp [hc, Ctrl.inSend, Ctrl.writing, Ctrl.inWait, Ctrl.inDrain])
  case initFlush1 | initFlush2 => exact hn
  all_goals have hf : s.flushRead = false := inv_flushRead h (by simp [hc, Ctrl.flushing])
  case uninit => exact ⟨h.batchAtRest (.inr hc), hn, hf, h.noSession hc⟩
  case idle => exact ⟨h.batchAtRest (.inl hc), hn, hf⟩
  case tx => exact ⟨hn, hf, h.noTxFail (.inl (.inl hc))⟩
  case initSettle => exact ⟨hn, hf⟩

end Inv

/-- The invariant by control state. -/
theorem inv_iff {s : State} : s.Inv ↔ s.Core ∧ s.At s.ctrl := by
  constructor
  · exact fun h => ⟨inv_core h, inv_at h⟩
  · rintro ⟨⟨hadm, hroom, hlen, hidx, hstarted, hresult⟩, hat⟩
    exact
      { admissible := hadm
        batchRoom := hroom
        batchLen := hlen
        batchIdx := hidx
        batchAtRest := at_taking hat
        byteToScan := at_scanning hat
        started := hstarted
        nestedSend := at_nested hat
        initSendNested := fun hc => by rw [hc] at hat; exact hat.1
        noTxFail := at_inSend_opTxFail hat
        flushMark := at_flushRead hat
        waitStarted := fun hc => (at_inWait hat hc).2.1
        waitPath := fun hc => (at_inWait hat hc).2.2
        commandSent := fun hc => (at_sent hat hc).2.2.2
        pending := fun hc => by rw [hc] at hat; exact hat.2
        nofbPath := ⟨fun hc => (at_inDrain hat hc).2, fun hc => by rw [hc] at hat; exact hat.2⟩
        noSession := fun hc => by rw [hc] at hat; exact hat.2.2.2
        ownResult := hresult }

theorem inv_of_at {s : State} {c : Ctrl} (hc : s.ctrl = c) (hcore : s.Core) (hat : s.At c) : s.Inv :=
  inv_iff.mpr ⟨hcore, hc ▸ hat⟩

/-- The agents around the engine may do what they like, but time does not go back. -/
theorem inv_setEnv {s : State} {e : Env} (h : s.Inv) (hnow : s.env.now ≤ e.now) : { s with env := e }.Inv :=
  { h with waitStarted := fun hc => (h.waitStarted hc).trans hnow }

/-! ### What each operation keeps of it -/

section Steps

variable {s : State}

/-- However an operation ends, the invariant holds afterwards. -/
theorem inv_finish {r : Result} (hcore : s.Core) (hflush : s.flushRead = false) (hr : r ≠ .badParameter) :
    (s.finish r).Inv := by
  have hended (u : State) (r : Result) (hcore : u.Core) (hflush : u.flushRead = false) (hnested : u.nested = false)
      (hr : r ≠ .badParameter) : (u.endOperation r).Inv := by
    obtain ⟨hadm, hroom, _, _, hstarted, _⟩ := hcore
    refine inv_of_at rfl ⟨hadm, hroom, Nat.zero_le _, Nat.le_refl _, hstarted, ?_⟩ ⟨⟨rfl, rfl⟩, hnested, hflush⟩
    simpa using hr
  unfold State.finish
  split
  · unfold State.returnToInit
    split
    · exact hended _ _ hcore hflush rfl nofun
    · exact inv_of_at rfl hcore ⟨rfl, hflush⟩
  · rename_i hn
    exact hended s r hcore hflush (by simpa using hn) hr

theorem inv_startNofb (hcore : s.Core) (hsent : s.Sent) : s.startNofb.Inv := by
  unfold State.startNofb
  split <;> exact inv_of_at rfl hcore ⟨hsent, ‹_›⟩

theorem inv_startWait {req : Bool} (hcore : s.Core) (hsent : s.Sent) (hfb : s.cfgFeedback = true)
    (hreq : req = true ↔ s.opMd.cmd ≠ s.params.resetCode) : (s.startWait req).Inv := by
  refine inv_of_at (State.startWait_ctrl s req) (by simpa [State.Core] using hcore) ⟨?_, ?_, ?_⟩
  · simpa [State.Sent] using hsent
  · simp
  · simpa [hfb] using hreq

/-- Each path after a successful write begins as the invariant asks (43_session.md R151). -/
theorem inv_choosePath (hcore : s.Core) (hsent : s.Sent) : s.choosePath.Inv := by
  unfold State.choosePath
  split
  · rename_i hcmd
    split
    · rename_i hwaits
      obtain ⟨hfb, _⟩ : s.cfgFeedback = true ∧ s.params.resetWaits = true := by simpa using hwaits
      exact inv_startWait hcore hsent hfb (by simp [hcmd])
    · exact inv_startNofb hcore hsent
  · rename_i hcmd
    split
    · exact inv_startWait hcore hsent ‹_› (by simp [hcmd])
    · exact inv_startNofb hcore hsent

/-! ### Each call, sleep and byte -/

theorem afterWrite_eq (s : State) : s.afterWrite = { s with env := s.afterWrite.env } := by
  unfold State.afterWrite; split <;> rfl

theorem afterRead_eq (s : State) : s.afterRead = { s with env := s.afterRead.env } := by
  unfold State.afterRead; split <;> rfl

theorem afterPoll_eq (s : State) : s.afterPoll = { s with env := s.afterPoll.env } := by
  unfold State.afterPoll; split <;> rfl

theorem inv_afterWrite (h : s.Inv) : s.afterWrite.Inv := by
  rw [afterWrite_eq]; exact inv_setEnv h (by simp)

theorem inv_afterRead (h : s.Inv) : s.afterRead.Inv := by
  rw [afterRead_eq]; exact inv_setEnv h (by simp)

theorem inv_afterPoll (h : s.Inv) : s.afterPoll.Inv := by
  rw [afterPoll_eq]; exact inv_setEnv h (by simp)

theorem core_passTime (d : Nat) (h : s.Core) : (s.passTime d).Core := by simpa [State.Core] using h

theorem sent_passTime (d : Nat) (h : s.Sent) : (s.passTime d).Sent := by simpa [State.Sent] using h

theorem waiting_passTime (d : Nat) (h : s.Waiting) : (s.passTime d).Waiting := by
  obtain ⟨hsent, hstart, hpath⟩ := h
  exact ⟨sent_passTime d hsent, by simp; omega, by simpa using hpath⟩

theorem core_loadBatch {l : List Byte} (h : s.Core) (hl : l.length ≤ s.params.rxBatchMax) : (s.loadBatch l).Core := by
  obtain ⟨hadm, hroom, _, _, hrest⟩ := h
  refine ⟨hadm, ?_, hl, Nat.zero_le _, hrest⟩
  simp [hroom]
  omega

theorem inv_txStep (h : s.Inv) (hc : s.ctrl.writing) : (txStep s).Inv := by
  have hcore := inv_core h
  have hsend : (s.nested = true → s.opMd = resetMessage s.params) ∧ s.flushRead = false :=
    ⟨fun hn => (h.nestedSend hn).2.2, inv_flushRead h (by rcases hc with hc | hc <;> simp [hc, Ctrl.flushing])⟩
  have hfail := h.noTxFail (.inl hc)
  unfold txStep
  split
  · exact inv_afterWrite h
  · exact inv_finish (by simpa [State.Core] using hcore) (by simpa using hsend.2) nofun
  · exact inv_choosePath (by simpa [State.Core] using hcore) (by simpa [State.Sent, hfail] using hsend)

theorem inv_waitPollStep (h : s.Inv) (hc : s.ctrl = .waitPoll) : (waitPollStep s).Inv := by
  have hpoll := inv_afterPoll h
  have hcore := inv_core hpoll
  have hwait : s.afterPoll.Waiting := inv_waiting hpoll (by simp [hc, Ctrl.inWait])
  have hflush := hwait.1.2.2.1
  have htimed : s.timedPoll.flushRead = false := by simpa using hflush
  unfold waitPollStep
  split
  · exact inv_finish hcore hflush nofun
  all_goals split
  · exact inv_finish (core_passTime 0 hcore) htimed nofun
  · exact inv_of_at rfl (core_passTime 0 hcore) (waiting_passTime 0 hwait)
  · exact inv_finish (core_passTime 0 hcore) htimed nofun
  · exact inv_of_at rfl (core_passTime 0 hcore) (waiting_passTime 0 hwait)

theorem inv_waitSleepStep (h : s.Inv) (hc : s.ctrl = .waitSleep) : (waitSleepStep s).Inv :=
  inv_of_at rfl (core_passTime s.params.pollInterval (inv_core h))
    (waiting_passTime s.params.pollInterval (inv_waiting h (by simp [hc, Ctrl.inWait])))

theorem inv_waitRead (h : s.Inv) (hc : s.ctrl = .waitRead) : (readStep s .waitScan .waitPoll).Inv := by
  have hread := inv_afterRead h
  have hwait : s.afterRead.Waiting := inv_waiting hread (by simp [hc, Ctrl.inWait])
  unfold readStep
  split
  · exact hread
  · exact inv_finish (inv_core hread) hwait.1.2.2.1 nofun
  · rename_i l hl
    have hcore := core_loadBatch (l := l) (inv_core hread) (by simpa using readAnswer_length hl)
    cases l with
    | nil => exact inv_of_at rfl hcore hwait
    | cons b l => exact inv_of_at rfl hcore ⟨hwait, Nat.zero_lt_succ _⟩

theorem inv_drainRead (h : s.Inv) (hc : s.ctrl = .drainRead) : (readStep s .drainScan .drainPoll).Inv := by
  have hread := inv_afterRead h
  have hdrain : s.afterRead.Draining := inv_draining hread (by simp [hc, Ctrl.inDrain])
  unfold readStep
  split
  · exact hread
  · exact inv_finish (inv_core hread) hdrain.1.2.2.1 nofun
  · rename_i l hl
    have hcore := core_loadBatch (l := l) (inv_core hread) (by simpa using readAnswer_length hl)
    cases l with
    | nil => exact inv_of_at rfl hcore hdrain
    | cons b l => exact inv_of_at rfl hcore ⟨hdrain, Nat.zero_lt_succ _⟩

theorem inv_waitPendingStep (h : s.Inv) (hc : s.ctrl = .waitPending) : (waitPendingStep s).Inv := by
  have hpoll := inv_afterPoll h
  have hcore := inv_core hpoll
  have hwait : s.afterPoll.Waiting := inv_waiting hpoll (by simp [hc, Ctrl.inWait])
  have hflush := hwait.1.2.2.1
  unfold waitPendingStep
  split
  · exact inv_finish hcore hflush nofun
  · exact inv_of_at rfl hcore hwait
  · split <;> exact inv_finish hcore hflush nofun

theorem inv_nofbSleepStep (h : s.Inv) (hc : s.ctrl = .nofbSleep) : (nofbSleepStep s).Inv :=
  inv_finish (core_passTime _ (inv_core h)) (sent_passTime _ (inv_sent h (.inr (.inr hc)))).2.2.1 nofun

theorem inv_drainPollStep (h : s.Inv) (hc : s.ctrl = .drainPoll) : (drainPollStep s).Inv := by
  have hpoll := inv_afterPoll h
  have hcore := inv_core hpoll
  have hdrain : s.afterPoll.Draining := inv_draining hpoll (by simp [hc, Ctrl.inDrain])
  have hflush := hdrain.1.2.2.1
  unfold drainPollStep
  split
  · exact inv_finish hcore hflush nofun
  · exact inv_finish hcore hflush nofun
  · exact inv_of_at rfl hcore hdrain

theorem inv_afterFlush (hcore : s.Core) : s.afterFlush.Inv := by
  unfold State.afterFlush
  split
  · exact inv_of_at rfl hcore ⟨rfl, rfl, rfl, rfl⟩
  · exact inv_finish hcore rfl nofun

theorem inv_flushStep (h : s.Inv) (hc : s.ctrl.flushing) : (flushStep s).Inv := by
  unfold flushStep
  split
  · split
    · exact inv_afterRead h
    all_goals exact inv_afterFlush (inv_core (inv_afterRead h))
  · have hpoll := inv_afterPoll h
    split
    · have hat := inv_at hpoll
      have hcore := inv_core hpoll
      rw [State.afterPoll_ctrl] at hat
      rcases hc with hc | hc <;> exact inv_of_at (by simpa using hc) hcore (by simpa [hc, State.At] using hat)
    all_goals exact inv_afterFlush (inv_core hpoll)

theorem inv_settleStep (h : s.Inv) (hc : s.ctrl = .initSettle) : (settleStep s).Inv := by
  have hat := inv_at h
  rw [hc] at hat
  exact inv_of_at rfl (core_passTime (settleTime s) (inv_core h)) (by simpa [State.At] using hat.1)

/-! ### A scanned byte and a completed frame -/

/-- The `SEND` on whose path bytes are scanned. -/
def State.Scans (s : State) : Prop := (s.ctrl = .waitScan ∧ s.Waiting) ∨ (s.ctrl = .drainScan ∧ s.Draining)

theorem inv_scans (h : s.Inv) (hc : s.ctrl.scanning) : s.Scans :=
  hc.imp (fun hc => ⟨hc, inv_waiting h (by simp [hc, Ctrl.inWait])⟩)
    (fun hc => ⟨hc, inv_draining h (by simp [hc, Ctrl.inDrain])⟩)

theorem scans_flushRead (h : s.Scans) : s.flushRead = false := by
  rcases h with ⟨_, h⟩ | ⟨_, h⟩ <;> exact h.1.2.2.1

theorem inv_continueScan (hcore : s.Core) (h : s.Scans) : s.continueScan.Inv := by
  unfold State.continueScan
  split
  · rename_i hmore
    have hmore : s.rxbIdx < s.rxbLen := by simpa [State.moreInBatch] using hmore
    rcases h with ⟨hc, h⟩ | ⟨hc, h⟩ <;> exact inv_of_at hc hcore ⟨h, hmore⟩
  · rcases h with ⟨hc, h⟩ | ⟨hc, h⟩
    · exact inv_of_at (c := .waitPoll) (by simp [hc]) hcore h
    · exact inv_of_at (c := .drainPoll) (by simp [hc]) hcore h

/-- The byte consumed, the batch index still lies in the batch and a partial frame behind its start marker. -/
theorem core_takeByte {b : Byte} (h : s.Core) (hb : s.nextByte? = some b) : (s.takeByte b).Core := by
  obtain ⟨hadm, hroom, hlen, _, hstarted, hresult⟩ := h
  obtain ⟨hmore, _⟩ := nextByte?_eq_some.mp hb
  exact ⟨hadm, hroom, hlen, hmore, scan_started hstarted, hresult⟩

theorem inv_waitPolicyEnd (hcore : s.Core) (hc : s.ctrl = .waitScan) (hwait : s.Waiting)
    (hphase : s.phase = .awaitingStart) (hresp : s.lastResp ≠ none) : s.waitPolicyEnd.Inv := by
  have hscans : s.Scans := .inl ⟨hc, hwait⟩
  have hflush := scans_flushRead hscans
  unfold State.waitPolicyEnd
  split
  · exact inv_finish hcore hflush nofun
  · split
    · exact inv_finish hcore hflush nofun
    · exact inv_continueScan hcore hscans
  · rename_i hpolicy
    split
    · rename_i hmore
      exact inv_of_at hc hcore ⟨hwait, by simpa [State.moreInBatch] using hmore⟩
    · rename_i hmore
      have ⟨_, _, _, hidx, _⟩ := hcore
      have hexhausted : s.rxbLen ≤ s.rxbIdx := by simpa [State.moreInBatch] using hmore
      exact inv_of_at rfl hcore ⟨hwait, hpolicy, hphase, hidx.antisymm hexhausted, hresp⟩

theorem inv_completeFrame {f : Frame} (hcore : s.Core) (hscans : s.Scans) (hphase : s.phase = .awaitingStart) :
    (s.completeFrame f).Inv := by
  have hflush := scans_flushRead hscans
  unfold State.completeFrame
  split
  · exact inv_finish hcore hflush nofun
  · exact inv_finish hcore hflush nofun
  · rename_i m _ _ _
    unfold State.interpret
    split
    · exact inv_finish hcore hflush nofun
    · rcases hscans with ⟨hc, hwait⟩ | ⟨hc, hdrain⟩
      · rw [if_pos hc]
        exact inv_waitPolicyEnd (s := s.keepResponse m) hcore hc hwait hphase nofun
      · rw [if_neg (by simp [hc])]
        exact inv_continueScan (s := s.keepResponse m) hcore (.inr ⟨hc, hdrain⟩)

/-! ### Host requests and the block reset -/

theorem inv_startInit {fb : Bool} {timeout : Nat} {override : Option Nat} (hcore : s.Core) :
    (s.startInit fb timeout override).Inv := by
  obtain ⟨hadm, hroom, _, _, _, hresult⟩ := hcore
  exact inv_of_at rfl ⟨hadm, hroom, Nat.zero_le _, Nat.le_refl _, fun h => absurd rfl h, hresult⟩ rfl

theorem inv_startSend {md : MessageData} (h : s.Inv) (hc : s.ctrl = .idle) : (s.startSend md).Inv := by
  have hcore := inv_core h
  have hflush := inv_flushRead h (by simp [hc, Ctrl.flushing])
  exact inv_of_at rfl hcore ⟨rfl, hflush, rfl⟩

theorem inv_blockReset (hadm : s.params.admissible = true) : (blockReset s).Inv :=
  inv_of_at rfl ⟨hadm, by simp [blockReset], Nat.zero_le _, Nat.le_refl _, fun h => absurd rfl h, nofun⟩
    ⟨⟨rfl, rfl⟩, rfl, rfl, rfl, rfl, rfl, rfl, rfl⟩

/-! ### The step -/

theorem inv_stepCase {t : State} (h : s.Inv) (hstep : StepCase s t) : t.Inv := by
  have htake : s.takeItem.Inv := inv_setEnv h (Nat.le_refl _)
  cases hstep with
  | waits => exact h
  | init => exact inv_startInit (inv_core htake)
  | send _ hc => exact inv_startSend htake hc
  | badParameter => exact inv_setEnv htake (Nat.le_refl _)
  | tx hc => exact inv_txStep h hc
  | waitPoll hc => exact inv_waitPollStep h hc
  | waitSleep hc => exact inv_waitSleepStep h hc
  | waitRead hc => exact inv_waitRead h hc
  | waitPending hc => exact inv_waitPendingStep h hc
  | nofbSleep hc => exact inv_nofbSleepStep h hc
  | drainPoll hc => exact inv_drainPollStep h hc
  | drainRead hc => exact inv_drainRead h hc
  | flush hc => exact inv_flushStep h hc
  | settle hc => exact inv_settleStep h hc
  | noByte hc => exact inv_continueScan (inv_core h) (inv_scans h hc)
  | byte hc b hb =>
    have hscans := inv_scans h hc
    exact inv_continueScan (core_takeByte (inv_core h) hb) hscans
  | frame hc b hb he =>
    have hphase : (s.takeByte b).phase = .awaitingStart :=
      congrArg State.phase (scanEvent_complete (s := s.consume) he).2.2
    have hscans := inv_scans h hc
    exact inv_completeFrame (core_takeByte (inv_core h) hb) hscans hphase

/-- Settles O59: by the ways a step can go, each of which keeps the condition of the control state it leads to. -/
theorem everyStepKeepsTheInvariant : Obligations.EveryStepKeepsTheInvariant := by
  intro s t h hst
  have hreset : s.afterResetInput.Inv := inv_setEnv h (Nat.le_refl _)
  obtain ⟨hadm, ⟨_, rfl⟩ | ⟨_, hcase⟩⟩ := step_next hst
  · exact inv_blockReset (by simpa using hadm)
  · exact inv_stepCase hreset hcase

/-- Settles O58: the empty session, with the spec's default parameters. -/
theorem resetMeetsTheInvariant : Obligations.ResetMeetsTheInvariant :=
  inv_blockReset (s := State.reset) (by decide)

end Steps

end Sys2Proof.Machine
end

section
/-! PROOFS. What a completed frame does (43_session.md R158, R159), and the registers that only some steps write. -/

namespace Sys2Proof.Machine

/-! ### The step of each control state -/

section StepOf

variable {s t : State}

theorem stepCase_of_step (h : step s = .next t) (hr : s.resetNow = false) : StepCase s.afterResetInput t := by
  obtain ⟨_, ⟨hreset, _⟩ | ⟨_, hcase⟩⟩ := step_next h
  · simp [hr] at hreset
  · exact hcase

variable (ha : s.params.admissible = true) (hr : s.resetNow = false)
include ha hr

theorem step_writing (hc : s.ctrl.writing) : step s = .next (txStep s.afterResetInput) := by
  rw [step_eq_ctrlStep ha hr]
  rcases hc with hc | hc <;> simp [ctrlStep, hc]

theorem step_waitPoll (hc : s.ctrl = .waitPoll) : step s = .next (waitPollStep s.afterResetInput) := by
  simp [step_eq_ctrlStep ha hr, ctrlStep, hc]

theorem step_waitSleep (hc : s.ctrl = .waitSleep) : step s = .next (waitSleepStep s.afterResetInput) := by
  simp [step_eq_ctrlStep ha hr, ctrlStep, hc]

theorem step_waitRead (hc : s.ctrl = .waitRead) : step s = .next (readStep s.afterResetInput .waitScan .waitPoll) := by
  simp [step_eq_ctrlStep ha hr, ctrlStep, hc]

theorem step_waitPending (hc : s.ctrl = .waitPending) : step s = .next (waitPendingStep s.afterResetInput) := by
  simp [step_eq_ctrlStep ha hr, ctrlStep, hc]

theorem step_nofbSleep (hc : s.ctrl = .nofbSleep) : step s = .next (nofbSleepStep s.afterResetInput) := by
  simp [step_eq_ctrlStep ha hr, ctrlStep, hc]

theorem step_drainPoll (hc : s.ctrl = .drainPoll) : step s = .next (drainPollStep s.afterResetInput) := by
  simp [step_eq_ctrlStep ha hr, ctrlStep, hc]

theorem step_drainRead (hc : s.ctrl = .drainRead) :
    step s = .next (readStep s.afterResetInput .drainScan .drainPoll) := by
  simp [step_eq_ctrlStep ha hr, ctrlStep, hc]

theorem step_flushing (hc : s.ctrl.flushing) : step s = .next (flushStep s.afterResetInput) := by
  rw [step_eq_ctrlStep ha hr]
  rcases hc with hc | hc <;> simp [ctrlStep, hc]

theorem step_settle (hc : s.ctrl = .initSettle) : step s = .next (settleStep s.afterResetInput) := by
  simp [step_eq_ctrlStep ha hr, ctrlStep, hc]

theorem step_scanning (hc : s.ctrl.scanning) : step s = scanStep s.afterResetInput := by
  rw [step_eq_ctrlStep ha hr]
  rcases hc with hc | hc <;> simp [ctrlStep, hc]

theorem step_noByte (hc : s.ctrl.scanning) (hb : s.nextByte? = none) :
    step s = .next s.afterResetInput.continueScan := by
  simp [step_scanning ha hr hc, scanStep, hb]

theorem step_byte (hc : s.ctrl.scanning) {b : Byte} (hb : s.nextByte? = some b) (he : s.scanEvent b ≠ .complete) :
    step s = .next (s.afterResetInput.takeByte b).continueScan := by
  rw [step_scanning ha hr hc, scanStep, afterResetInput_nextByte?, hb]
  cases h : s.scanEvent b <;> simp_all

/-- A byte that completes a frame executes the row its code names (42_scanner.md R133). -/
theorem step_complete (hc : s.ctrl.scanning) {b : Byte} (hb : s.nextByte? = some b) (he : s.scanEvent b = .complete) :
    step s = exec (decodeFrame (s.afterResetInput.takeByte b).fbuf) (s.afterResetInput.takeByte b) := by
  simp [step_scanning ha hr hc, scanStep, hb, he]

theorem step_frame (hc : s.ctrl.scanning) {b : Byte} (hb : s.nextByte? = some b) (he : s.scanEvent b = .complete) :
    step s
      = .next ((s.afterResetInput.takeByte b).completeFrame (s.afterResetInput.takeByte b).fbuf) := by
  rw [step_complete ha hr hc hb he, exec_frame (decodeFrame_frame? _)]
  exact if_pos hc

end StepOf

/-! ### A completed frame, by the verdict on it -/

section CompleteFrame

variable {s : State} {f : Frame}

theorem completeFrame_of_unknown (h : f.cmd ∉ s.params.knownCodes) :
    s.completeFrame f = s.finish (.unknownCommand f.cmd) := by
  simp [State.completeFrame, decodeOutput_of_unknown h]

theorem completeFrame_of_badChecksum (h : f.cmd ∈ s.params.knownCodes)
    (hck : cksumCheck s.params.cksumZeroCmdCorrection f = false) :
    s.completeFrame f = s.finish (.badChecksum f.cmd) := by
  simp [State.completeFrame, decodeOutput_of_known h, hck, Frame.message]

theorem completeFrame_of_valid (h : f.cmd ∈ s.params.knownCodes)
    (hck : cksumCheck s.params.cksumZeroCmdCorrection f = true) :
    s.completeFrame f = s.interpret (Frame.message f) := by
  simp [State.completeFrame, decodeOutput_of_known h, hck]

theorem interpret_lastResp (m : MessageData) : (s.interpret m).lastResp = some m := by
  unfold State.interpret
  repeat' split
  all_goals simp

theorem interpret_ackSeen (m : MessageData) : (s.interpret m).ackSeen = (s.ackSeen || m.cmd == Config.ackCode) := by
  unfold State.interpret
  repeat' split
  all_goals simp

/-- 41_codec.md R111: the code is in the catalogue and the checksum matches. -/
def ValidFrame (p : Params) (f : Frame) : Prop :=
  f.cmd ∈ p.knownCodes ∧ cksumCheck p.cksumZeroCmdCorrection f = true

/-- A frame that is not valid ends the `SEND` with a report of its code. -/
theorem completeFrame_of_not_valid (h : ¬ ValidFrame s.params f) :
    s.completeFrame f = s.finish (.unknownCommand f.cmd) ∨ s.completeFrame f = s.finish (.badChecksum f.cmd) := by
  by_cases hknown : f.cmd ∈ s.params.knownCodes
  · exact .inr (completeFrame_of_badChecksum hknown (Bool.eq_false_of_not_eq_true fun hck => h ⟨hknown, hck⟩))
  · exact .inl (completeFrame_of_unknown hknown)

/-- Only a valid frame writes the session registers. -/
theorem completeFrame_keeps_of_not_valid (h : ¬ ValidFrame s.params f) :
    (s.completeFrame f).lastResp = s.lastResp ∧ (s.completeFrame f).ackSeen = s.ackSeen := by
  rcases completeFrame_of_not_valid h with h | h <;> simp [h]

end CompleteFrame

/-! ### Which steps write a register -/

section Writes

variable {s t : State}

/-- A successful write records the command (43_session.md R150). -/
theorem txStep_lastSent (s : State) :
    (txStep s).lastSent = if s.writeAnswer = .ok then some s.opMd else s.lastSent := by
  unfold txStep
  split <;> rename_i h <;> simp [h]

/-- A successful write clears `ACK_SEEN` (43_session.md R150). -/
theorem txStep_ackSeen (s : State) : (txStep s).ackSeen = if s.writeAnswer = .ok then false else s.ackSeen := by
  unfold txStep
  split <;> rename_i h <;> simp [h]

/-- What the write answered now puts on the wire (20_memory.md R55, log 15). -/
def State.written (s : State) : List Byte :=
  match s.writeAnswer with
  | .ok => s.txFrame.bytes
  | .terr _ k => s.txFrame.bytes.take k
  | .suspended => []

theorem written_of_ok (h : s.writeAnswer = .ok) : s.written = s.txFrame.bytes := by simp [State.written, h]

theorem written_of_terr {e : Token} {k : Nat} (h : s.writeAnswer = .terr e k) : s.written = s.txFrame.bytes.take k := by
  simp [State.written, h]

theorem written_of_suspended (h : s.writeAnswer = .suspended) : s.written = [] := by simp [State.written, h]

theorem txStep_txStream (s : State) : (txStep s).env.txStream = s.env.txStream ++ s.written := by
  unfold txStep
  split <;> rename_i h
  · simp [written_of_suspended h]
  · simp [written_of_terr h, State.txFrame]
  · simp [written_of_ok h, State.txFrame]

/-- The step that takes an `INIT` from the channel. -/
theorem initTaken {h : HostItem} {rest : List HostItem} {ov fb : Bool} {timeout delay : Nat}
    (hc : s.ctrl = .idle ∨ s.ctrl = .uninit) (he : s.env.channel = h :: rest)
    (hd : decodeHost h = .ok (.init ov fb timeout delay)) : InitTaken s :=
  ⟨hc, h, rest, ov, fb, timeout, delay, he, hd⟩

theorem stepCase_params (h : StepCase s t) : t.params = s.params := by
  cases h <;> simp

theorem stepCase_config (h : StepCase s t) (hinit : ¬ InitTaken s) :
    t.cfgFeedback = s.cfgFeedback ∧ t.cfgTimeout = s.cfgTimeout := by
  cases h with
  | init hc _ _ he _ _ _ _ hd => exact absurd (initTaken hc he hd) hinit
  | _ => simp

theorem stepCase_lastSent (h : StepCase s t) (hne : t.lastSent ≠ s.lastSent) :
    (InitTaken s ∧ t.lastSent = none) ∨ (s.ctrl.writing ∧ s.writeAnswer = .ok ∧ t.lastSent = some s.opMd) := by
  cases h with
  | init hc _ _ he _ _ _ _ hd => exact .inl ⟨initTaken hc he hd, rfl⟩
  | tx hc =>
    rw [txStep_lastSent] at hne ⊢
    split at hne
    · rename_i hw
      exact .inr ⟨hc, hw, by simp [hw]⟩
    · exact absurd rfl hne
  | _ => simp at hne

/-- In the step that completes a frame the scanner holds that frame. -/
theorem stepCase_lastResp (h : StepCase s t) (hne : t.lastResp ≠ s.lastResp) :
    (InitTaken s ∧ t.lastResp = none)
      ∨ (s.ctrl.scanning ∧ ∃ b, s.nextByte? = some b ∧ s.scanEvent b = .complete ∧ ValidFrame s.params t.fbuf
          ∧ t.lastResp = some (Frame.message t.fbuf)) := by
  cases h with
  | init hc _ _ he _ _ _ _ hd => exact .inl ⟨initTaken hc he hd, rfl⟩
  | frame hc b hb he =>
    rw [State.completeFrame_fbuf]
    by_cases hvalid : ValidFrame s.params (s.takeByte b).fbuf
    · refine .inr ⟨hc, b, hb, he, hvalid, ?_⟩
      rw [completeFrame_of_valid (s := s.takeByte b) hvalid.1 hvalid.2, interpret_lastResp]
    · exact absurd (completeFrame_keeps_of_not_valid (s := s.takeByte b) hvalid).1 hne
  | _ => simp at hne

theorem stepCase_ackSeen_cleared (h : StepCase s t) (hs : s.ackSeen = true) (ht : t.ackSeen = false) :
    InitTaken s ∨ (s.ctrl.writing ∧ s.writeAnswer = .ok) := by
  cases h with
  | init hc _ _ he _ _ _ _ hd => exact .inl (initTaken hc he hd)
  | tx hc =>
    rw [txStep_ackSeen] at ht
    split at ht
    · exact .inr ⟨hc, ‹_›⟩
    · simp [hs] at ht
  | frame hc b =>
    by_cases hvalid : ValidFrame s.params (s.takeByte b).fbuf
    · rw [completeFrame_of_valid (s := s.takeByte b) hvalid.1 hvalid.2, interpret_ackSeen] at ht
      simp [hs] at ht
    · rw [(completeFrame_keeps_of_not_valid (s := s.takeByte b) hvalid).2] at ht
      simp [hs] at ht
  | _ => simp [hs] at ht

theorem stepCase_ackSeen_set (h : StepCase s t) (hs : s.ackSeen = false) (ht : t.ackSeen = true) :
    s.ctrl.scanning ∧ ∃ b, s.nextByte? = some b ∧ s.scanEvent b = .complete ∧ t.fbuf.cmd = Config.ackCode
      ∧ ValidFrame s.params t.fbuf := by
  cases h with
  | tx hc =>
    rw [txStep_ackSeen] at ht
    split at ht <;> simp [hs] at ht
  | frame hc b hb he =>
    rw [State.completeFrame_fbuf]
    by_cases hvalid : ValidFrame s.params (s.takeByte b).fbuf
    · rw [completeFrame_of_valid (s := s.takeByte b) hvalid.1 hvalid.2, interpret_ackSeen] at ht
      exact ⟨hc, b, hb, he, by simpa [hs, Frame.message] using ht, hvalid⟩
    · rw [(completeFrame_keeps_of_not_valid (s := s.takeByte b) hvalid).2] at ht
      simp [hs] at ht
  | _ => simp [hs] at ht

theorem stepCase_phase_back (h : StepCase s t) (hs : s.phase ≠ .awaitingStart) (ht : t.phase = .awaitingStart) :
    InitTaken s
      ∨ (s.ctrl.scanning ∧ s.phase = .awaitingEnd
          ∧ ∃ b, s.nextByte? = some b ∧ (s.scanEvent b = .complete ∨ s.scanEvent b = .resync)) := by
  cases h with
  | init hc _ _ he _ _ _ _ hd => exact .inl (initTaken hc he hd)
  | byte hc b hb =>
    rw [State.continueScan_phase, State.takeByte_phase] at ht
    obtain ⟨hend, hevent⟩ := scan_back hs ht
    exact .inr ⟨hc, hend, b, hb, hevent⟩
  | frame hc b hb =>
    rw [State.completeFrame_phase, State.takeByte_phase] at ht
    obtain ⟨hend, hevent⟩ := scan_back hs ht
    exact .inr ⟨hc, hend, b, hb, hevent⟩
  | _ => exact absurd (by simpa using ht) hs

/-- The channel loses its first item in a step at rest, and is kept in every other step (00_scope.md R7). -/
theorem stepCase_channel (h : StepCase s t) :
    t.env.channel = s.env.channel ∨ (s.ctrl.taking ∧ t.env.channel = s.env.channel.tail) := by
  cases h with
  | init hc => exact .inr ⟨hc, by simp⟩
  | send _ hc => exact .inr ⟨.inl hc, by simp⟩
  | badParameter hc => exact .inr ⟨hc, by simp⟩
  | _ => exact .inl (by simp)

theorem choosePath_now_le (s : State) : s.env.now ≤ s.choosePath.env.now := by
  unfold State.choosePath
  repeat' split
  all_goals simp

theorem stepCase_now (h : StepCase s t) : s.env.now ≤ t.env.now := by
  cases h with
  | tx =>
    unfold txStep
    split
    · simp
    · simp
    · exact le_trans (by simp) (choosePath_now_le _)
  | waitPoll =>
    unfold waitPollStep
    repeat' split
    all_goals simp
  | waitSleep => simp [waitSleepStep, Nat.add_assoc]
  | nofbSleep => simp [nofbSleepStep, Nat.add_assoc]
  | settle => simp [settleStep, Nat.add_assoc]
  | _ => simp

theorem stepCase_txStream (h : StepCase s t) :
    t.env.txStream = s.env.txStream ∨ s.ctrl.writing := by
  cases h with
  | tx hc => exact .inr hc
  | _ => exact .inl (by simp)

end Writes

/-! ### The claims -/

/-- Settles O18: besides a block reset and `INIT`, only the scanner writes the phase. -/
theorem fourWaysBackToAwaitingStart : Obligations.FourWaysBackToAwaitingStart := by
  intro s t hst hs ht
  obtain ⟨_, ⟨hr, _⟩ | ⟨_, hcase⟩⟩ := step_next hst
  · exact .inl hr
  · exact .inr (stepCase_phase_back (s := s.afterResetInput) hcase hs ht)

/-- Settles O19: no step writes the parameters, and only the accepted `INIT` writes the configuration. -/
theorem configurationChangesOnlyAtInit : Obligations.ConfigurationChangesOnlyAtInit := by
  intro s t hst
  obtain ⟨_, ⟨hr, rfl⟩ | ⟨_, hcase⟩⟩ := step_next hst
  · exact ⟨by simp [blockReset], by simp [hr]⟩
  · exact ⟨stepCase_params (s := s.afterResetInput) hcase, fun _ => stepCase_config (s := s.afterResetInput) hcase⟩

/-- Settles O20: by the ways a step can go, only `INIT` and the write touch the register. -/
theorem lastSentWrittenOnlyByAcceptedWrite : Obligations.LastSentWrittenOnlyByAcceptedWrite :=
  fun s _ hst hr => stepCase_lastSent (s := s.afterResetInput) (stepCase_of_step hst hr)

/-- Settles O21: by the ways a step can go, only `INIT` and a valid frame touch the register. -/
theorem lastRespWrittenOnlyByValidFrame : Obligations.LastRespWrittenOnlyByValidFrame := by
  intro s t hst hr hne
  refine (stepCase_lastResp (s := s.afterResetInput) (stepCase_of_step hst hr) hne).imp_right ?_
  rintro ⟨hscan, b, hb, he, ⟨hknown, hck⟩, hresp⟩
  exact ⟨hscan, b, hb, he, hknown, hck, hresp⟩

/-- Settles O22: `INIT` and the write clear the flag, a valid frame sets it or leaves it. -/
theorem ackSeenWrittenByWriteAndAckOnly : Obligations.AckSeenWrittenByWriteAndAckOnly := by
  intro s t hst hr
  have hcase := stepCase_of_step hst hr
  refine ⟨stepCase_ackSeen_cleared (s := s.afterResetInput) hcase, fun hs ht => ?_⟩
  obtain ⟨hscan, b, hb, he, hcmd, _, hck⟩ := stepCase_ackSeen_set (s := s.afterResetInput) hcase hs ht
  exact ⟨hscan, b, hb, he, hcmd, hck⟩

/-- Settles O25: a busy engine is not at rest, and a block reset does not touch the channel. -/
theorem busyEngineTakesNoRequest : Obligations.BusyEngineTakesNoRequest := by
  intro s t hst
  have hchannel : t.env.channel = s.env.channel ∨ (s.ctrl.taking ∧ t.env.channel = s.env.channel.tail) := by
    obtain ⟨_, ⟨_, rfl⟩ | ⟨_, hcase⟩⟩ := step_next hst
    · exact .inl (by simp [blockReset])
    · exact stepCase_channel (s := s.afterResetInput) hcase
  refine ⟨fun hb => hchannel.resolve_right fun ⟨hrest, _⟩ => ?_, hchannel.resolve_left⟩
  simp [busy_of_taking hrest] at hb

/-- Settles O26: only readings of the time and the ends of sleeps move it, and each moves it on. -/
theorem timeNeverGoesBack : Obligations.TimeNeverGoesBack := by
  intro s t hst
  obtain ⟨ha, ⟨hr, rfl⟩ | ⟨hr, hcase⟩⟩ := step_next hst
  · simp [blockReset, hr]
  refine ⟨stepCase_now (s := s.afterResetInput) hcase, fun _ hc => ?poll, fun _ hc => ?nofb, fun _ hc d hd => ?override,
    fun _ hc hd => ?settle⟩
  case poll =>
    rw [step_waitSleep ha hr hc] at hst
    cases hst
    simp [waitSleepStep]
  case nofb =>
    rw [step_nofbSleep ha hr hc] at hst
    cases hst
    simp [nofbSleepStep]
  all_goals
    rw [step_settle ha hr hc] at hst
    cases hst
    simp [settleStep, settleTime, hd]

theorem written_prefix (s : State) : s.written <+: s.txFrame.bytes := by
  unfold State.written
  split
  exacts [List.prefix_rfl, List.take_prefix _ _, List.nil_prefix]

/-- An abandoned write delivers some first bytes of its frame (70_reset_and_hazards.md R251). -/
theorem abandonWrite_of_writing {s : State} (hc : s.ctrl.writing) :
    s.abandonWrite = s.freeDraw.putWire (s.txFrame.bytes.take (Config.freeOnWire s.env.draws)) := if_pos hc

theorem abandonWrite_of_not_writing {s : State} (hc : ¬ s.ctrl.writing) : s.abandonWrite = s := if_neg hc

/-- Settles O27: only the write of `TX` and `INIT_SEND` puts bytes on the wire, and they are first bytes of its frame. -/
theorem wireGetsWholeFrames : Obligations.WireGetsWholeFrames := by
  intro s t hst frame
  obtain ⟨ha, ⟨hr, rfl⟩ | ⟨hr, hcase⟩⟩ := step_next hst
  · refine ⟨rfl, by simp [hr], by simp [hr], fun _ hc => ?_, fun hne => ⟨?_, .inl hr⟩⟩
    · rw [abandonWrite_of_writing (s := s.afterResetInput) hc]
      exact ⟨_, List.take_prefix _ _, rfl⟩
    by_contra hc
    rw [abandonWrite_of_not_writing (s := s.afterResetInput) hc] at hne
    exact hne rfl
  · have hwire (hc : s.ctrl.writing) : t.env.txStream = s.env.txStream ++ s.written := by
      rw [step_writing ha hr hc] at hst
      cases hst
      exact txStep_txStream s.afterResetInput
    refine ⟨rfl, fun _ hc hw => ?_, fun _ hc e k hw => ⟨_, written_prefix s, hwire hc⟩, by simp [hr], fun hne => ?_⟩
    · rw [hwire hc, written_of_ok hw]
      rfl
    · obtain hsame | hc := stepCase_txStream (s := s.afterResetInput) hcase
      · exact absurd hsame hne
      · refine ⟨hc, .inr fun hw => hne ?_⟩
        rw [hwire hc, written_of_suspended hw, List.append_nil]

end Sys2Proof.Machine
end

section
/-! PROOFS. What a step does to the operation that runs: it ends with a result of its path, or it goes on. -/

namespace Sys2Proof.Machine

/-! ### The two ways a `SEND` can end -/

/-- Ending a `SEND`: the host operation ends, or inside `INIT` the result is dropped, or a failed nested write ends `INIT`
(43_session.md R169, R171). -/
theorem finish_cases (s : State) (r : Result) :
    (s.nested = false ∧ s.finish r = ended s r)
      ∨ (s.nested = true ∧ s.finish r = { s with nested := false, ctrl := .initSettle })
      ∨ (s.nested = true ∧ s.opTxFail = true
          ∧ ∃ e, r = .transport e ∧ s.finish r = ended { s with nested := false } (.init e)) := by
  cases hn : s.nested
  case false => exact .inl ⟨rfl, finish_of_not_nested hn r⟩
  case true =>
    rw [State.finish, if_pos hn]
    unfold State.returnToInit
    split
    · rename_i e htx
      exact .inr (.inr ⟨rfl, htx, e, rfl, rfl⟩)
    · exact .inr (.inl ⟨rfl, rfl⟩)

/-- In `IDLE` the operation has ended, and the result and the reply to the host agree. -/
theorem finish_of_idle {s : State} {r : Result} (h : (s.finish r).ctrl = .idle) :
    ∃ r', (s.finish r).result = some r' ∧ (s.finish r).env.hostReply = some r'
      ∧ (s.finish r).rxbLen = 0 ∧ (s.finish r).rxbIdx = 0 := by
  obtain ⟨_, he⟩ | ⟨_, he⟩ | ⟨_, _, e, _, he⟩ := finish_cases s r
  · rw [he]; exact ⟨r, rfl, rfl, rfl, rfl⟩
  · rw [he] at h; cases h
  · rw [he]; exact ⟨.init e, rfl, rfl, rfl, rfl⟩

/-- Outside `IDLE` the result of a nested `SEND` is dropped. -/
theorem finish_of_not_idle {s : State} {r : Result} (h : (s.finish r).ctrl ≠ .idle) :
    s.finish r = { s with nested := false, ctrl := .initSettle } := by
  obtain ⟨_, he⟩ | ⟨_, he⟩ | ⟨_, _, e, _, he⟩ := finish_cases s r
  · rw [he] at h; exact absurd rfl h
  · exact he
  · rw [he] at h; exact absurd rfl h

/-! ### What a step of a busy engine does to its operation -/

/-- The results with which the step of a control state can end a `SEND` or `INIT` (60_exceptions.md R222). -/
def Ctrl.canEndWith (c : Ctrl) (r : Result) : Prop :=
  match c with
  | .tx | .initSend | .waitRead | .drainRead => ∃ e, r = .transport e
  | .waitPoll => (∃ e, r = .transport e) ∨ r = .userTimeout
  | .waitPending => (∃ e, r = .transport e) ∨ r = .failedAck ∨ r = .ok
  | .waitScan | .drainScan =>
    r = .ok ∨ (∃ c, r = .badChecksum c) ∨ (∃ c, r = .unknownCommand c) ∨ ∃ b, r = .moduleError b
  | .drainPoll => (∃ e, r = .transport e) ∨ r = .ok
  | .nofbSleep | .initFlush2 => r = .ok
  | .uninit | .idle | .waitSleep | .initFlush1 | .initSettle => False

/-- What a step does to the operation of a busy engine. -/
inductive OperationStep (s : State) : State → Prop where
  | ends (u : State) (r : Result) (hr : s.ctrl.canEndWith r) (hhost : SameHost s u) (hnested : u.nested = s.nested)
    (hfail : ¬ s.ctrl.writing → u.opTxFail = s.opTxFail) : OperationStep s (u.finish r)
  | sendGoesOn (t : State) (hc : t.ctrl.inSend) (hhost : SameHost s t) (hnested : t.nested = s.nested) :
    OperationStep s t
  | initGoesOn (t : State) (hs : s.ctrl.flushing ∨ s.ctrl = .initSettle) (hc : t.ctrl.flushing ∨ t.ctrl = .initSend)
    (hhost : SameHost s t) : OperationStep s t

section Operation

variable {s t : State}

theorem choosePath_inSend (s : State) : s.choosePath.ctrl.inSend := by
  unfold State.choosePath State.startNofb
  repeat' split
  all_goals simp [Ctrl.inSend, Ctrl.inWait, Ctrl.inDrain]

theorem continueScan_inSend (h : s.ctrl.scanning) : s.continueScan.ctrl.inSend := by
  have hs : s.ctrl.inSend := by rcases h with h | h <;> simp [h, Ctrl.inSend, Ctrl.inWait, Ctrl.inDrain]
  unfold State.continueScan
  repeat' split
  · exact hs
  all_goals simp [Ctrl.inSend, Ctrl.inWait, Ctrl.inDrain]

theorem operationStep_tx (hc : s.ctrl.writing) : OperationStep s (txStep s) := by
  unfold txStep
  split
  · exact .sendGoesOn _ (.inl (by simpa using hc)) (by simp [SameHost]) (by simp)
  · rename_i e _ _
    refine .ends _ _ ?_ (by simp [SameHost]) (by simp) (fun h => absurd hc h)
    rcases hc with hc | hc <;> simp [hc, Ctrl.canEndWith]
  · exact .sendGoesOn _ (choosePath_inSend _) (by simp [SameHost]) (by simp)

theorem operationStep_waitPoll (hc : s.ctrl = .waitPoll) : OperationStep s (waitPollStep s) := by
  unfold waitPollStep
  split
  · exact .ends _ _ (by simp [hc, Ctrl.canEndWith]) (by simp [SameHost]) (by simp) (by simp)
  all_goals split
  · exact .ends _ _ (by simp [hc, Ctrl.canEndWith]) (by simp [SameHost]) (by simp) (by simp)
  · exact .sendGoesOn _ (by simp [Ctrl.inSend, Ctrl.inWait]) (by simp [SameHost]) (by simp)
  · exact .ends _ _ (by simp [hc, Ctrl.canEndWith]) (by simp [SameHost]) (by simp) (by simp)
  · exact .sendGoesOn _ (by simp [Ctrl.inSend, Ctrl.inWait]) (by simp [SameHost]) (by simp)

theorem operationStep_read {scanning polling : Ctrl} (hc : s.ctrl = .waitRead ∨ s.ctrl = .drainRead)
    (hscanning : scanning.inSend) (hpolling : polling.inSend) : OperationStep s (readStep s scanning polling) := by
  unfold readStep
  split
  · refine .sendGoesOn _ ?_ (by simp [SameHost]) (by simp)
    rcases hc with hc | hc <;> simp [hc, Ctrl.inSend, Ctrl.inWait, Ctrl.inDrain]
  · refine .ends _ _ ?_ (by simp [SameHost]) (by simp) (by simp)
    rcases hc with hc | hc <;> simp [hc, Ctrl.canEndWith]
  · exact .sendGoesOn _ (by rw [State.goto_ctrl]; split <;> assumption) (by simp [SameHost]) (by simp)

theorem operationStep_waitPending (hc : s.ctrl = .waitPending) : OperationStep s (waitPendingStep s) := by
  unfold waitPendingStep
  split
  · exact .ends _ _ (by simp [hc, Ctrl.canEndWith]) (by simp [SameHost]) (by simp) (by simp)
  · exact .sendGoesOn _ (by simp [Ctrl.inSend, Ctrl.inWait]) (by simp [SameHost]) (by simp)
  · split
    all_goals exact .ends _ _ (by simp [hc, Ctrl.canEndWith]) (by simp [SameHost]) (by simp) (by simp)

theorem operationStep_nofbSleep (hc : s.ctrl = .nofbSleep) : OperationStep s (nofbSleepStep s) :=
  .ends (s.passTime s.params.nofbDelay) .ok (by simp [hc, Ctrl.canEndWith]) (by simp [SameHost]) (by simp) (by simp)

theorem operationStep_drainPoll (hc : s.ctrl = .drainPoll) : OperationStep s (drainPollStep s) := by
  unfold drainPollStep
  split
  · exact .ends _ _ (by simp [hc, Ctrl.canEndWith]) (by simp [SameHost]) (by simp) (by simp)
  · exact .ends _ _ (by simp [hc, Ctrl.canEndWith]) (by simp [SameHost]) (by simp) (by simp)
  · exact .sendGoesOn _ (by simp [Ctrl.inSend, Ctrl.inDrain]) (by simp [SameHost]) (by simp)

/-- What follows a flush, after the call `u` that ended it. -/
theorem operationStep_afterFlush {u : State} (hc : s.ctrl.flushing) (hu : u.ctrl = s.ctrl) (hhost : SameHost s u)
    (hnested : u.nested = s.nested) (hfail : u.opTxFail = s.opTxFail) : OperationStep s u.afterFlush := by
  unfold State.afterFlush
  split
  · exact .initGoesOn _ (.inl hc) (.inr rfl) hhost
  · rename_i hne
    have hsecond : s.ctrl = .initFlush2 := hc.resolve_left (hu ▸ hne)
    exact .ends _ _ (by simp [hsecond, Ctrl.canEndWith]) hhost hnested (fun _ => hfail)

theorem operationStep_flush (hc : s.ctrl.flushing) : OperationStep s (flushStep s) := by
  unfold flushStep
  split
  all_goals split
  · exact .initGoesOn _ (.inl hc) (.inl (by simpa using hc)) (by simp [SameHost])
  · exact operationStep_afterFlush hc (by simp) (by simp [SameHost]) (by simp) (by simp)
  · exact operationStep_afterFlush hc (by simp) (by simp [SameHost]) (by simp) (by simp)
  · exact .initGoesOn _ (.inl hc) (.inl (by simpa using hc)) (by simp [SameHost])
  · exact operationStep_afterFlush hc (by simp) (by simp [SameHost]) (by simp) (by simp)
  · exact operationStep_afterFlush hc (by simp) (by simp [SameHost]) (by simp) (by simp)

theorem canEndWith_of_scanning {r : Result} (hc : s.ctrl.scanning)
    (hr : r = .ok ∨ (∃ c, r = .badChecksum c) ∨ (∃ c, r = .unknownCommand c) ∨ ∃ b, r = .moduleError b) :
    s.ctrl.canEndWith r := by
  rcases hc with hc | hc <;> rw [hc] <;> exact hr

/-- A completed frame ends the `SEND` with a verdict on the frame or with `OK`, or scanning goes on. `u` is the state that
has taken the frame's last byte. -/
theorem operationStep_completeFrame {u : State} {f : Frame} (hc : s.ctrl.scanning) (hu : u.ctrl = s.ctrl)
    (hhost : SameHost s u) (hnested : u.nested = s.nested) (hfail : u.opTxFail = s.opTxFail) :
    OperationStep s (u.completeFrame f) := by
  have hends (v : State) (r : Result) (hr) (hv : SameHost s v) (hn : v.nested = s.nested)
      (hf : v.opTxFail = s.opTxFail) : OperationStep s (v.finish r) :=
    .ends v r (canEndWith_of_scanning hc hr) hv hn fun _ => hf
  have hinSend : s.ctrl.inSend := by rcases hc with hc | hc <;> simp [hc, Ctrl.inSend, Ctrl.inWait, Ctrl.inDrain]
  have hcontinue (m : MessageData) : OperationStep s (u.keepResponse m).continueScan :=
    .sendGoesOn _ (continueScan_inSend (hu ▸ hc)) (by simpa [SameHost] using hhost) (by simpa using hnested)
  unfold State.completeFrame
  split
  · exact hends _ _ (by simp) hhost hnested hfail
  · exact hends _ _ (by simp) hhost hnested hfail
  · rename_i m _ _ _
    unfold State.interpret
    split
    · exact hends (u.keepResponse m) _ (by simp) hhost hnested hfail
    split
    · unfold State.waitPolicyEnd
      split
      · exact hends (u.keepResponse m) _ (by simp) hhost hnested hfail
      · split
        · exact hends (u.keepResponse m) _ (by simp) hhost hnested hfail
        · exact hcontinue m
      · split
        · exact .sendGoesOn _ (hu ▸ hinSend) hhost hnested
        · exact .sendGoesOn _ (by simp [Ctrl.inSend, Ctrl.inWait]) hhost hnested
    · exact hcontinue m

/-- Every step of a busy engine ends its operation or goes on with it. -/
theorem operationStep_of_stepCase (h : StepCase s t) (hb : s.busy = true) : OperationStep s t := by
  have hrest (hc : s.ctrl.taking) : s.busy ≠ true := by simp [busy_of_taking hc]
  cases h with
  | waits hc => exact absurd hb (hrest hc)
  | init hc => exact absurd hb (hrest hc)
  | send _ hc => exact absurd hb (hrest (.inl hc))
  | badParameter hc => exact absurd hb (hrest hc)
  | tx hc => exact operationStep_tx hc
  | waitPoll hc => exact operationStep_waitPoll hc
  | waitSleep hc => exact .sendGoesOn _ (by simp [Ctrl.inSend, Ctrl.inWait]) (by simp [SameHost]) (by simp)
  | waitRead hc =>
    exact operationStep_read (.inl hc) (by simp [Ctrl.inSend, Ctrl.inWait]) (by simp [Ctrl.inSend, Ctrl.inWait])
  | waitPending hc => exact operationStep_waitPending hc
  | nofbSleep hc => exact operationStep_nofbSleep hc
  | drainPoll hc => exact operationStep_drainPoll hc
  | drainRead hc =>
    exact operationStep_read (.inr hc) (by simp [Ctrl.inSend, Ctrl.inDrain]) (by simp [Ctrl.inSend, Ctrl.inDrain])
  | flush hc => exact operationStep_flush hc
  | settle hc => exact .initGoesOn _ (.inr hc) (.inl (.inr rfl)) (by simp [SameHost])
  | noByte hc => exact .sendGoesOn _ (continueScan_inSend hc) (by simp [SameHost]) (by simp)
  | byte hc b => exact .sendGoesOn _ (continueScan_inSend (s := s.takeByte b) hc) (by simp [SameHost]) (by simp)
  | frame hc b => exact operationStep_completeFrame (u := s.takeByte b) hc rfl ⟨rfl, rfl, rfl⟩ rfl rfl

/-- An operation that goes on is in a busy state. -/
theorem busy_of_goesOn (h : t.ctrl.inSend ∨ t.ctrl.flushing ∨ t.ctrl = .initSend) : t.busy = true := by
  rcases h with ((h | h) | (h | h | h | h | h) | (h | h | h) | h) | (h | h) | h <;> simp [State.busy, h]

/-- A busy engine is busy or in `IDLE` after a step. -/
theorem busy_or_idle_of_operationStep (h : OperationStep s t) : t.busy = true ∨ t.ctrl = .idle := by
  cases h with
  | ends u r =>
    by_cases hidle : (u.finish r).ctrl = .idle
    · exact .inr hidle
    · exact .inl (by rw [finish_of_not_idle hidle]; rfl)
  | sendGoesOn _ hc => exact .inl (busy_of_goesOn (.inl hc))
  | initGoesOn _ _ hc => exact .inl (busy_of_goesOn (.inr hc))

/-- A step of a busy engine to `IDLE` ended its operation. -/
theorem ends_of_idle (h : OperationStep s t) (hidle : t.ctrl = .idle) :
    ∃ (u : State) (r : Result), t = u.finish r ∧ s.ctrl.canEndWith r ∧ u.nested = s.nested
      ∧ (¬ s.ctrl.writing → u.opTxFail = s.opTxFail) := by
  cases h with
  | ends u r hr _ hnested hfail => exact ⟨u, r, rfl, hr, hnested, hfail⟩
  | sendGoesOn _ hc =>
    have hbusy := busy_of_goesOn (.inl hc)
    simp [State.busy, hidle] at hbusy
  | initGoesOn _ _ hc =>
    have hbusy := busy_of_goesOn (.inr hc)
    simp [State.busy, hidle] at hbusy

/-- While the operation does not end, the host sees nothing of it. -/
theorem sameHost_of_not_idle (h : OperationStep s t) (hidle : t.ctrl ≠ .idle) : SameHost s t := by
  cases h with
  | ends u r _ hhost =>
    rw [finish_of_not_idle hidle]
    exact hhost
  | sendGoesOn _ _ hhost => exact hhost
  | initGoesOn _ _ _ hhost => exact hhost

theorem not_initTaken_of_busy (hb : s.busy = true) : ¬ InitTaken s :=
  fun h => by simp [busy_of_taking h.1] at hb

theorem not_inSend_of_taking (hc : s.ctrl.taking) : ¬ s.ctrl.inSend := by
  rcases hc with hc | hc <;> simp [hc, Ctrl.inSend, Ctrl.writing, Ctrl.inWait, Ctrl.inDrain]

/-- A step of a `SEND` keeps the operands. -/
theorem stepCase_operands (h : StepCase s t) (hs : s.ctrl.inSend) : t.opMd = s.opMd ∧ t.opOverride = s.opOverride := by
  cases h with
  | init hc => exact absurd hs (not_inSend_of_taking hc)
  | send _ hc => exact absurd hs (not_inSend_of_taking (.inl hc))
  | flush hc =>
    refine absurd hs ?_
    rcases hc with hc | hc <;> simp [hc, Ctrl.inSend, Ctrl.writing, Ctrl.inWait, Ctrl.inDrain]
  | _ => simp

/-- At rest a step writes no result, and it leaves `UNINIT` or `IDLE` only by a request. -/
theorem stepCase_at_rest (h : StepCase s t) (hb : s.busy = false) :
    t.result = s.result
      ∧ (t.ctrl = s.ctrl ∨ (InitTaken s ∧ t.ctrl = .initFlush1) ∨ (s.ctrl = .idle ∧ t.ctrl = .tx)) := by
  have hrest (hbusy : s.busy = true) : t.result = s.result
      ∧ (t.ctrl = s.ctrl ∨ (InitTaken s ∧ t.ctrl = .initFlush1) ∨ (s.ctrl = .idle ∧ t.ctrl = .tx)) := by
    rw [hb] at hbusy
    cases hbusy
  cases h with
  | waits => exact ⟨rfl, .inl rfl⟩
  | init hc _ _ he _ _ _ _ hd => exact ⟨rfl, .inr (.inl ⟨initTaken hc he hd, rfl⟩)⟩
  | send _ hc => exact ⟨rfl, .inr (.inr ⟨hc, rfl⟩)⟩
  | badParameter => exact ⟨rfl, .inl rfl⟩
  | tx hc | flush hc | noByte hc | byte hc | frame hc =>
    exact hrest (by rcases hc with hc | hc <;> simp [State.busy, hc])
  | waitPoll hc | waitSleep hc | waitRead hc | waitPending hc | nofbSleep hc | drainPoll hc | drainRead hc
  | settle hc =>
    exact hrest (by simp [State.busy, hc])

end Operation

/-! ### The claims -/

/-- Settles O23: at rest no result is written, and a busy engine writes one exactly when it goes to `IDLE`. -/
theorem resultWrittenOnlyAtTheEnd : Obligations.ResultWrittenOnlyAtTheEnd := by
  intro s t hst hr
  have hcase := stepCase_of_step hst hr
  have hop (hb : s.busy = true) : OperationStep s.afterResetInput t := operationStep_of_stepCase hcase hb
  refine ⟨fun hne => ?written, fun hb hidle => ?ends⟩
  case written =>
    cases hb : s.busy
    · exact absurd (stepCase_at_rest (s := s.afterResetInput) hcase hb).1 hne
    · refine ⟨rfl, by_contra fun hidle => hne ?_⟩
      obtain ⟨_, _, hresult⟩ := sameHost_of_not_idle (hop hb) hidle
      exact hresult
  case ends =>
    obtain ⟨hfeedback, htimeout⟩ := stepCase_config (s := s.afterResetInput) hcase (not_initTaken_of_busy hb)
    have hparams := stepCase_params (s := s.afterResetInput) hcase
    obtain ⟨u, r, rfl, _⟩ := ends_of_idle (hop hb) hidle
    obtain ⟨r', hresult, hreply, hlen, hidx⟩ := finish_of_idle hidle
    exact ⟨r', hresult, hreply, hlen, hidx, hfeedback, htimeout, hparams⟩

/-- Settles O24: at rest only `INIT` leads out of `UNINIT`, and a busy engine does not get there. -/
theorem uninitLeftOnlyByInit : Obligations.UninitLeftOnlyByInit := by
  intro s t hst hr
  have hcase := stepCase_of_step hst hr
  refine ⟨fun hs hne => ?_, fun ht => ?_⟩
  · have hb : s.busy = false := by simp [State.busy, hs]
    obtain ⟨_, hsame | hinit | ⟨hidle, _⟩⟩ := stepCase_at_rest (s := s.afterResetInput) hcase hb
    · exact absurd (hsame.trans hs) hne
    · exact hinit
    · exact absurd (hs.symm.trans hidle) nofun
  · cases hb : s.busy
    · obtain ⟨_, hsame | ⟨_, hinit⟩ | ⟨_, htx⟩⟩ := stepCase_at_rest (s := s.afterResetInput) hcase hb
      · exact hsame.symm.trans ht
      · rw [ht] at hinit; cases hinit
      · rw [ht] at htx; cases htx
    · rcases busy_or_idle_of_operationStep (operationStep_of_stepCase hcase hb) with hbusy | hidle
      · simp [State.busy, ht] at hbusy
      · rw [ht] at hidle; cases hidle

/-- In `IDLE` the result is that of a host-issued operation, or `INIT(e)` after a failed nested write. -/
theorem finish_result_of_idle {u : State} {r : Result} (h : (u.finish r).ctrl = .idle) :
    (u.nested = false ∨ u.opTxFail = false → (u.finish r).result = some r)
      ∧ (u.nested = true → ∃ e, (u.finish r).result = some (.init e)) := by
  obtain ⟨hn, he⟩ | ⟨_, he⟩ | ⟨hn, htx, e, _, he⟩ := finish_cases u r
  · exact ⟨fun _ => by rw [he]; rfl, by simp [hn]⟩
  · rw [he] at h
    cases h
  · exact ⟨by simp [hn, htx], fun _ => ⟨e, by rw [he]; rfl⟩⟩

theorem canEndWith_inDrain {c : Ctrl} {r : Result} (hc : c.inDrain) (h : c.canEndWith r) :
    r = .ok ∨ (∃ e, r = .transport e) ∨ (∃ c, r = .badChecksum c) ∨ (∃ c, r = .unknownCommand c)
      ∨ ∃ b, r = .moduleError b := by
  rcases hc with rfl | rfl | rfl
  · rcases h with ⟨e, rfl⟩ | rfl <;> simp
  · obtain ⟨e, rfl⟩ := h
    simp
  · rcases h with rfl | ⟨c, rfl⟩ | ⟨c, rfl⟩ | ⟨b, rfl⟩ <;> simp

theorem canEndWith_inWait {c : Ctrl} {r : Result} (hc : c.inWait) (h : c.canEndWith r) :
    r = .ok ∨ (∃ e, r = .transport e) ∨ (∃ c, r = .badChecksum c) ∨ (∃ c, r = .unknownCommand c)
      ∨ (∃ b, r = .moduleError b) ∨ r = .failedAck ∨ r = .userTimeout := by
  rcases hc with rfl | rfl | rfl | rfl | rfl
  · rcases h with ⟨e, rfl⟩ | rfl <;> simp
  · exact h.elim
  · obtain ⟨e, rfl⟩ := h
    simp
  · rcases h with rfl | ⟨c, rfl⟩ | ⟨c, rfl⟩ | ⟨b, rfl⟩ <;> simp
  · rcases h with ⟨e, rfl⟩ | rfl | rfl <;> simp

/-- Settles O28: the step that ends the operation ends it with a result of its control state, and by the invariant nothing
is nested in `TX` and no write has failed after it. -/
theorem resultsByPath : Obligations.ResultsByPath := by
  intro s t hst hr hinv hb hidle
  have hop : OperationStep s.afterResetInput t := operationStep_of_stepCase (stepCase_of_step hst hr) hb
  obtain ⟨u, r, rfl, hcan, hnested, hfail⟩ := ends_of_idle hop hidle
  replace hcan : s.ctrl.canEndWith r := hcan
  replace hnested : u.nested = s.nested := hnested
  obtain ⟨hhost, hinit⟩ := finish_result_of_idle hidle
  have hsend (hc : s.ctrl.inWait ∨ s.ctrl.inDrain ∨ s.ctrl = .nofbSleep) : (u.finish r).result = some r := by
    have hnotWriting : ¬ s.ctrl.writing := by
      rcases hc with (hc | hc | hc | hc | hc) | (hc | hc | hc) | hc <;> simp [hc, Ctrl.writing]
    exact hhost (.inr ((hfail hnotWriting).trans (hinv.noTxFail (.inr hc))))
  refine ⟨fun hc => ?init, fun hc => ?tx, fun hc => ?nofb, fun hc => ?drain, fun hc => ?wait⟩
  case init =>
    cases hn : s.nested
    · rw [hhost (.inl (hnested.trans hn))]
      rcases hc with hc | hc | hc | hc
      · simp [hn] at hc
      all_goals simp [hc, Ctrl.canEndWith] at hcan
      simp [hcan]
    · exact .inr (hinit (hnested.trans hn))
  case tx =>
    have hn : s.nested = false := inv_nested hinv (by simp [hc])
    rw [hhost (.inl (hnested.trans hn))]
    simpa [hc, Ctrl.canEndWith] using hcan
  case nofb =>
    rw [hsend (.inr (.inr hc))]
    simpa [hc, Ctrl.canEndWith] using hcan
  case drain =>
    rw [hsend (.inr (.inl hc))]
    simpa only [Option.some.injEq] using canEndWith_inDrain hc hcan
  case wait =>
    rw [hsend (.inl hc)]
    simpa only [Option.some.injEq] using canEndWith_inWait hc hcan

/-! ### Errors of the transport (43_session.md R163) -/

section Errors

variable {s : State} {e : Token} (ha : s.params.admissible = true) (hr : s.resetNow = false)
include ha hr

theorem step_write_terr {k : Nat} (hc : s.ctrl.writing) (hw : s.writeAnswer = .terr e k) :
    step s = .next
      ((s.afterResetInput.afterWrite.putWire (s.txFrame.bytes.take k)).markTxFail.finish (.transport e)) := by
  rw [step_writing ha hr hc, txStep, afterResetInput_writeAnswer, hw]
  rfl

theorem step_poll_terr (hc : s.ctrl = .waitPoll ∨ s.ctrl = .waitPending ∨ s.ctrl = .drainPoll)
    (hp : s.pollAnswer = .terr e) : step s = .next (s.afterResetInput.afterPoll.finish (.transport e)) := by
  rcases hc with hc | hc | hc
  · simp [step_waitPoll ha hr hc, waitPollStep, hp]
  · simp [step_waitPending ha hr hc, waitPendingStep, hp]
  · simp [step_drainPoll ha hr hc, drainPollStep, hp]

theorem step_read_terr (hc : s.ctrl = .waitRead ∨ s.ctrl = .drainRead) (hp : s.readAnswer = .terr e) :
    step s = .next (s.afterResetInput.afterRead.finish (.transport e)) := by
  rcases hc with hc | hc
  · simp [step_waitRead ha hr hc, readStep, hp]
  · simp [step_drainRead ha hr hc, readStep, hp]

end Errors

/-- Settles O37: the call that fails is the last one of the step, and `finish` writes only the result and the batch. -/
theorem transportErrorEndsSend : Obligations.TransportErrorEndsSend := by
  intro s e ha hr hn herror
  rcases herror with ⟨hc, k, hw⟩ | ⟨hc, hp⟩ | ⟨hc, hp⟩
  · rw [step_write_terr ha hr (.inl hc) hw, finish_of_not_nested (by simpa using hn)]
    refine ⟨_, rfl, ?_⟩
    simp [ended, SameConfig, SameSession, SameScanner, WriteTaken, hc]
  · rw [step_poll_terr ha hr hc hp, finish_of_not_nested (by simpa using hn)]
    refine ⟨_, rfl, ?_⟩
    rcases hc with hc | hc | hc <;> simp [ended, SameConfig, SameSession, SameScanner, PollTaken, hc]
  · rw [step_read_terr ha hr hc hp, finish_of_not_nested (by simpa using hn)]
    refine ⟨_, rfl, ?_⟩
    rcases hc with hc | hc <;> simp [ended, SameConfig, SameSession, SameScanner, ReadTaken, hc]

/-! ### The nested `SEND` (43_session.md R171) -/

/-- A busy engine always has a next step. -/
theorem step_of_busy {s : State} (ha : s.params.admissible = true) (hr : s.resetNow = false) (hb : s.busy = true) :
    ∃ t, step s = .next t := by
  have hscan (hc : s.ctrl.scanning) : ∃ t, step s = .next t := by
    cases hbyte : s.nextByte? with
    | none => exact ⟨_, step_noByte ha hr hc hbyte⟩
    | some b =>
      by_cases he : s.scanEvent b = .complete
      · exact ⟨_, step_frame ha hr hc hbyte he⟩
      · exact ⟨_, step_byte ha hr hc hbyte he⟩
  cases hc : s.ctrl
  case uninit | idle => simp [State.busy, hc] at hb
  case tx => exact ⟨_, step_writing ha hr (.inl hc)⟩
  case initSend => exact ⟨_, step_writing ha hr (.inr hc)⟩
  case waitPoll => exact ⟨_, step_waitPoll ha hr hc⟩
  case waitSleep => exact ⟨_, step_waitSleep ha hr hc⟩
  case waitRead => exact ⟨_, step_waitRead ha hr hc⟩
  case waitScan => exact hscan (.inl hc)
  case waitPending => exact ⟨_, step_waitPending ha hr hc⟩
  case nofbSleep => exact ⟨_, step_nofbSleep ha hr hc⟩
  case drainPoll => exact ⟨_, step_drainPoll ha hr hc⟩
  case drainRead => exact ⟨_, step_drainRead ha hr hc⟩
  case drainScan => exact hscan (.inr hc)
  case initFlush1 => exact ⟨_, step_flushing ha hr (.inl hc)⟩
  case initFlush2 => exact ⟨_, step_flushing ha hr (.inr hc)⟩
  case initSettle => exact ⟨_, step_settle ha hr hc⟩

/-- A nested `SEND` whose write did not fail returns to the settle sleep. -/
theorem finish_of_nested {s : State} (hn : s.nested = true) (h : s.opTxFail = false) (r : Result) :
    s.finish r = { s with nested := false, ctrl := .initSettle } := by
  rw [finish_eq_sendEnded h, sendEnded, if_pos hn]

/-- How the step of a nested `SEND` leaves `INIT` and its `SEND`. -/
def NestedOutcome (s t : State) : Prop :=
  (t.nested = true ∧ SameHost s t ∧ t.ctrl.inSend)
    ∨ (t.nested = false ∧ t.ctrl = .initSettle ∧ SameHost s t ∧ t.opTxFail = false)
    ∨ (∃ e k, s.ctrl = .initSend ∧ s.writeAnswer = .terr e k ∧ t.nested = false ∧ t.ctrl = .idle
        ∧ t.result = some (.init e) ∧ t.opTxFail = true ∧ t.lastSent = s.lastSent)

section Nested

variable {s t : State}

theorem nestedOutcome_txStep (hn : s.nested = true) (hc : s.ctrl = .initSend) : NestedOutcome s (txStep s) := by
  unfold txStep
  split
  · exact .inl ⟨by simpa using hn, by simp [SameHost], .inl (.inr (by simpa using hc))⟩
  · rename_i e k hw
    rw [finish_of_nested_txFail (by simpa using hn) rfl]
    exact .inr (.inr ⟨e, k, hc, hw, by simp [ended]⟩)
  · exact .inl ⟨by simpa using hn, by simp [SameHost], choosePath_inSend _⟩

theorem nestedOutcome_of_operationStep (h : OperationStep s t) (hn : s.nested = true) (hc : ¬ s.ctrl.writing)
    (hs : s.ctrl.inSend) (hfail : s.opTxFail = false) : NestedOutcome s t := by
  cases h with
  | ends u r _ hhost hnested hsame =>
    have htx : u.opTxFail = false := (hsame hc).trans hfail
    rw [finish_of_nested (hnested.trans hn) htx]
    exact .inr (.inl ⟨rfl, rfl, hhost, htx⟩)
  | sendGoesOn _ hin hhost hnested => exact .inl ⟨hnested.trans hn, hhost, hin⟩
  | initGoesOn _ hinit =>
    refine absurd hs ?_
    rcases hinit with (hinit | hinit) | hinit <;>
      simp [hinit, Ctrl.inSend, Ctrl.writing, Ctrl.inWait, Ctrl.inDrain]

end Nested

/-- Settles O38: the nested write by its answers, every later step by what it does to its operation. -/
theorem nestedSendReturnsToInit : Obligations.NestedSendReturnsToInit := by
  intro s hr hinv hn
  have ha := hinv.admissible
  obtain ⟨hsend, hnotTx, _⟩ := hinv.nestedSend hn
  have hfail := hinv.noTxFail hsend
  have hb : s.busy = true := busy_of_goesOn (.inl hsend)
  obtain ⟨t, hst⟩ := step_of_busy ha hr hb
  have hcase := stepCase_of_step hst hr
  obtain ⟨hfeedback, htimeout⟩ := stepCase_config (s := s.afterResetInput) hcase (not_initTaken_of_busy hb)
  obtain ⟨hmd, hoverride⟩ := stepCase_operands (s := s.afterResetInput) hcase hsend
  refine ⟨t, hst, ?outcome, ⟨hfeedback, htimeout, stepCase_params (s := s.afterResetInput) hcase⟩, hmd, hoverride,
    (busyEngineTakesNoRequest s t hst).1 hb, fun e k hc hw => ?write, fun e hc hp => ?poll, fun e hc hp => ?read⟩
  case outcome =>
    by_cases hc : s.ctrl = .initSend
    · rw [step_writing ha hr (.inr hc)] at hst
      cases hst
      exact nestedOutcome_txStep (s := s.afterResetInput) hn hc
    · exact nestedOutcome_of_operationStep (s := s.afterResetInput) (operationStep_of_stepCase hcase hb) hn
        (not_or.mpr ⟨hnotTx, hc⟩) hsend hfail
  case write =>
    rw [step_write_terr ha hr (.inr hc) hw, finish_of_nested_txFail (by simpa using hn) rfl] at hst
    cases hst
    simp [ended, SameSession, SameScanner, WriteTaken]
  case poll =>
    rw [step_poll_terr ha hr hc hp, finish_of_nested (by simpa using hn) (by simpa using hfail)] at hst
    cases hst
    simp [SameHost, SameSession, SameScanner, PollTaken]
  case read =>
    rw [step_read_terr ha hr hc hp, finish_of_nested (by simpa using hn) (by simpa using hfail)] at hst
    cases hst
    simp [SameHost, SameSession, SameScanner, ReadTaken]

end Sys2Proof.Machine
end

section
/-! PROOFS. Host requests and wrapper calls (43_session.md R149, 45_host_wrappers.md), the engine at rest, and the block
reset. -/

namespace Sys2Proof.Machine

/-! ### Wrapper calls -/

theorem exec_callSetVolume_of_le {v : Byte} (h : v.toNat ≤ 30) (s : State) :
    exec (.callSetVolume v) s = s.offerSend (message8 s.params.volumeCode v) :=
  have hrange : ¬ Config.volumeMax < v := fun hlt => Nat.not_lt.mpr h (BitVec.lt_def.mp hlt)
  if_neg hrange

theorem exec_callPlayTrack_of_le {n : Word16} (h : n.toNat ≤ 2999) (s : State) :
    exec (.callPlayTrack n) s = s.offerSend (message16 s.params.trackCode n) :=
  have hrange : ¬ Config.trackMax < n := fun hlt => Nat.not_lt.mpr h (BitVec.lt_def.mp hlt)
  if_neg hrange

/-- The bytes of a 16-bit parameter, high byte first (30_encoding.md R73). -/
theorem message16_eq {n : Word16} {h l : Byte} (hn : n.toNat = h.toNat * 256 + l.toNat) (cmd : Byte) :
    message16 cmd n = ⟨cmd, h, l⟩ := by
  have hcat : n = cat16 h l := BitVec.eq_of_toNat_eq (hn.trans (cat16_toNat h l).symm)
  rw [message16, hcat, hi8_cat16, lo8_cat16]

/-- Settles O30: both rows offer the same `SEND`, which `IDLE` takes. -/
theorem sendIsAcceptedInIdle : Obligations.SendIsAcceptedInIdle := by
  intro s cmd ph pl hc
  have hsend : exec (.send cmd ph pl) s = .next (s.startSend ⟨cmd, ph, pl⟩) := offerSend_of_idle hc _
  exact ⟨hsend, rfl, _, hsend, rfl, rfl⟩

/-- Settles O31: both states at rest take the `INIT`. -/
theorem initIsAccepted : Obligations.InitIsAccepted :=
  fun _ _ fb timeout _ hc => offerInit_of_taking hc fb timeout _

/-- Settles O32: the wrapper's argument check passes or fails, and what passes is a `SEND` that `IDLE` takes. -/
theorem wrappersExpandToSend : Obligations.WrappersExpandToSend := by
  intro s hc sends
  refine ⟨fun _ => offerSend_of_idle hc _, offerSend_of_idle hc _, fun v hv => ?volume, fun n hn h l hbytes => ?track,
    fun _ => offerSend_of_idle hc _, fun _ => offerSend_of_idle hc _, fun _ => offerSend_of_idle hc _,
    fun v hv => ⟨_, exec_callSetVolume_of_gt hv s, rfl, hc⟩, fun n hn => ⟨_, exec_callPlayTrack_of_gt hn s, rfl, hc⟩⟩
  case volume =>
    rw [exec_callSetVolume_of_le hv]
    exact offerSend_of_idle hc _
  case track =>
    rw [exec_callPlayTrack_of_le hn, message16_eq hbytes]
    exact offerSend_of_idle hc _

/-- Settles O34: the argument check comes before the state is looked at, and `UNINIT` refuses every `SEND`. -/
theorem wrappersBeforeInitAreRefused : Obligations.WrappersBeforeInitAreRefused := by
  intro s hc refusedHere badParameter
  refine ⟨fun _ _ _ => offerSend_of_uninit hc _, offerSend_of_uninit hc _, fun v => ?volume, fun n => ?track,
    fun _ => offerSend_of_uninit hc _, fun _ => offerSend_of_uninit hc _, fun _ => offerSend_of_uninit hc _⟩
  case volume =>
    split
    · rw [exec_callSetVolume_of_le ‹_›]
      exact offerSend_of_uninit hc _
    · exact exec_callSetVolume_of_gt (by omega) s
  case track =>
    split
    · rw [exec_callPlayTrack_of_le ‹_›]
      exact offerSend_of_uninit hc _
    · exact exec_callPlayTrack_of_gt (by omega) s

/-! ### The engine at rest -/

/-- Settles O35: with an empty channel the step at rest takes nothing. -/
theorem engineAtRestWaits : Obligations.EngineAtRestWaits := by
  intro s ha hr hc hch
  simp [step_eq_hostStep ha hr hc, hostStep, hch, State.afterResetInput]

/-- Settles O54: the item is taken from the channel and executed. -/
theorem stepExecutesTheOfferedRequest : Obligations.StepExecutesTheOfferedRequest := by
  intro s h rest i ha hr hc hch hd
  rw [step_of_decodeHost_ok ha hr hc hch hd]
  simp [State.takeItem, State.afterResetInput, hch]

/-! ### The block reset -/

theorem step_of_resetNow {s : State} (ha : s.params.admissible = true) (hr : s.resetNow = true) :
    step s = .next (blockReset s.afterResetInput.abandonWrite) := by
  simp [step, engineStep, ha, hr]

/-- Settles O53: every register is written but the parameters, and only a write in progress reaches the wire. -/
theorem blockResetAbandonsTheOperation : Obligations.BlockResetAbandonsTheOperation := by
  intro s ha hr
  refine ⟨_, step_of_resetNow ha hr, rfl, rfl, rfl, rfl, rfl, rfl, rfl, rfl, rfl, State.abandonWrite_params _,
    fun hc => ?_, fun hc => ?_⟩
  · rw [abandonWrite_of_not_writing (s := s.afterResetInput) hc]
    rfl
  · rw [abandonWrite_of_writing (s := s.afterResetInput) hc]
    exact ⟨_, _, List.take_prefix _ _, rfl⟩

/-- Settles O52: the reset state's registers, and its view words, evaluated. -/
theorem resetGivesTheEmptySession : Obligations.ResetGivesTheEmptySession :=
  ⟨rfl, rfl, rfl, rfl, rfl, rfl, rfl, rfl, rfl, rfl⟩

end Sys2Proof.Machine
end

section
/-! PROOFS. Scanned bytes: a false start marker, a byte that completes no frame and one that completes a frame (42_scanner.md
R133, R140, 43_session.md R164). -/

namespace Sys2Proof.Machine

/-! ### A false start marker (42_scanner.md R140) -/

theorem exists_frame_of_length {l : List Byte} (h : l.length = 10) : ∃ f : Frame, f.bytes = l :=
  match l, h with
  | [a, b, c, d, e, f, g, h, i, j], _ => ⟨⟨a, b, c, d, e, f, g, h, i, j⟩, rfl⟩

/-- Ten bytes behind a start marker end at the end marker's place, in a completed or a discarded frame. -/
theorem scanAll_tenBytes {f : Frame} (old : Frame) (hstart : f.start = Config.startMark) :
    (scanAll .awaitingStart old f.bytes).1
        = List.replicate 9 .none ++ [if f.stop = Config.endMark then .complete else .resync]
      ∧ (scanAll .awaitingStart old f.bytes).2.1 = .awaitingStart := by
  by_cases hstop : f.stop = Config.endMark
  · simp [scanAll_bytes hstart hstop, hstop]
  · have hbytes : f.bytes = f.bytes.take 9 ++ [f.stop] := rfl
    rw [hbytes, (scannerResynchronises old f f.stop 0#8 hstart hstop).1]
    simp [hstop]

/-- Settles O16: the stray marker and the nine bytes behind it are taken as a frame `fake`, and too few bytes follow it for
another frame to complete. -/
theorem falseStartMarkerLosesTheFrame : Obligations.FalseStartMarkerLosesTheFrame := by
  intro old f g b hg hstart hstop hb stream scanned falseEnd
  have hlength : f.bytes.length = 10 := rfl
  obtain ⟨fake, hfake⟩ := exists_frame_of_length (l := stream.take 10) (by simp [stream]; omega)
  have hfakeStart : fake.start = Config.startMark := by
    have hhead : fake.bytes[0]? = stream[0]? := by rw [hfake, List.getElem?_take_of_lt (by omega)]
    simpa [Frame.bytes, stream] using hhead
  have hfakeStop : fake.stop = b := by
    have hlast : fake.bytes[9]? = stream[9]? := by rw [hfake, List.getElem?_take_of_lt (by omega)]
    rw [List.getElem?_cons_succ, List.getElem?_append_right (by omega), hb] at hlast
    simpa [Frame.bytes] using hlast
  obtain ⟨hevents, hphase⟩ := scanAll_tenBytes old hfakeStart
  rw [hfakeStop] at hevents
  have hsplit : stream = fake.bytes ++ stream.drop 10 := by rw [hfake, List.take_append_drop]
  obtain ⟨rest, hrest⟩ :
      ∃ rest, rest = scanAll .awaitingStart (scanAll .awaitingStart old fake.bytes).2.2 (stream.drop 10) := ⟨_, rfl⟩
  have hscanned : scanned = (List.replicate 9 .none ++ [falseEnd] ++ rest.1, rest.2) := by
    rw [show scanned = scanAll .awaitingStart old (fake.bytes ++ stream.drop 10) from
        congrArg (scanAll .awaitingStart old) hsplit, scanAll_append, hevents, hphase, hrest]
  have hten : (List.replicate 9 ScanEvent.none ++ [falseEnd]).length = 10 := rfl
  have hbehind : stream.drop 10 = f.bytes.drop (9 - g.length) := by
    rw [List.drop_succ_cons, List.drop_append, List.drop_eq_nil_of_le (by omega), List.nil_append]
  have hbehindLength : (stream.drop 10).length = g.length + 1 := by
    rw [hbehind, List.length_drop]
    omega
  rw [hscanned]
  refine ⟨List.take_left' hten, ?lost, fun hend => ?completed, fun hnone => ?dropped⟩
  case lost =>
    rw [List.drop_left' hten, hrest]
    exact scanAll_no_complete _ _ _ (by rw [hbehindLength]; simp [Phase.code]; omega)
  case completed => rw [← hfake, scanAll_bytes hfakeStart (hfakeStop.trans hend)]
  case dropped =>
    rw [← hbehind] at hnone
    rw [List.drop_left' hten, hrest, scanAll_drops _ _ hnone, hbehindLength]
    exact ⟨rfl, rfl⟩

/-! ### A byte that completes no frame -/

theorem continueScan_ctrl (s : State) :
    s.continueScan.ctrl
      = if s.rxbIdx < s.rxbLen then s.ctrl else if s.ctrl = .waitScan then .waitPoll else .drainPoll := by
  unfold State.continueScan State.moreInBatch
  split <;> simp_all

/-- Settles O17: the byte is taken by the scanner, and scanning goes on. -/
theorem uneventfulBytesLeaveTheSession : Obligations.UneventfulBytesLeaveTheSession := by
  intro s b ha hr hc hidx hb he
  have hctrl : (s.afterResetInput.takeByte b).continueScan.ctrl
      = if s.rxbIdx + 1 < s.rxbLen then s.ctrl else if s.ctrl = .waitScan then .waitPoll else .drainPoll :=
    continueScan_ctrl _
  refine ⟨_, step_byte ha hr hc (nextByte?_eq_some.mpr ⟨hidx, hb⟩) he, by simp [SameConfig], by simp [SameSession],
    by simp [SameHost], by simp [SameOperation], by simp, by simp, by simp, State.continueScan_env _, by simp,
    fun hmore => ?_, fun hmore hscan => ?_, fun hmore hscan => ?_⟩
  · rw [hctrl, if_pos hmore]
  · rw [hctrl, if_neg hmore, if_pos hscan]
  · rw [hctrl, if_neg hmore, if_neg (by simp [hscan])]

/-! ### A byte that completes a frame -/

theorem Frame.bytes_injective {f g : Frame} (h : f.bytes = g.bytes) : f = g := by
  have hof := congrArg Frame.ofBytes? h
  rw [Frame.ofBytes?_bytes, Frame.ofBytes?_bytes] at hof
  exact Option.some.inj hof

/-- In `AwaitingEnd` the end marker completes the frame in the buffer (42_scanner.md R133). -/
theorem scanEvent_endMark {s : State} (h : s.phase = .awaitingEnd) : s.scanEvent Config.endMark = .complete := by
  simp [State.scanEvent, scan, h]

/-- Settles O55: nine buffered bytes and the end marker are a frame between its markers, which the scanner completes. -/
theorem stepExecutesTheCompletedFrame : Obligations.StepExecutesTheCompletedFrame := by
  intro s b i ha hr hc hphase hidx hb hd
  obtain ⟨f, hf, _, hstop, rfl⟩ := decodeWire_eq_ok hd
  obtain rfl : { s.fbuf with stop := b } = f := Frame.bytes_injective hf
  obtain rfl : b = Config.endMark := hstop
  have hevent := scanEvent_endMark hphase
  have htaken := (scanEvent_complete (s := s.afterResetInput.consume) hevent).2.2
  rw [step_complete ha hr hc (nextByte?_eq_some.mpr ⟨hidx, hb⟩) hevent, State.takeByte, htaken]
  rfl

end Sys2Proof.Machine
end

section
/-! PROOFS. Received frames: the kind of a frame (30_encoding.md R77) and what executing a frame row does (43_session.md
R158 to R160, 41_codec.md R112). -/

namespace Sys2Proof.Machine

/-! ### The kind of a frame -/

theorem frameKind_of_known {p : Params} {c : Byte} (h : c ∈ p.knownCodes) :
    frameKind p c = if c = Config.ackCode then .ack else if c = Config.errorCode then .error else .info :=
  if_pos (List.contains_iff_mem.mpr h)

theorem frameKind_of_unknown {p : Params} {c : Byte} (h : c ∉ p.knownCodes) : frameKind p c = .unknown :=
  if_neg (mt List.contains_iff_mem.mp h)

/-- Settles O10: the two named codes are in the catalogue, and the catalogue test decides before them. -/
theorem frameKindByCommandByte : Obligations.FrameKindByCommandByte := by
  intro p f ha
  obtain ⟨hack, herror, _⟩ := admissible_iff.mp ha
  by_cases hknown : f.cmd ∈ p.knownCodes
  · have hne : Config.errorCode ≠ Config.ackCode := by decide
    rw [frameKind_of_known hknown, decodeOutput_of_known hknown]
    split_ifs <;> simp_all [Ne.symm hne]
  · have hneAck : f.cmd ≠ Config.ackCode := fun h => hknown (h ▸ hack)
    have hneError : f.cmd ≠ Config.errorCode := fun h => hknown (h ▸ herror)
    rw [frameKind_of_unknown hknown, decodeOutput_of_unknown hknown]
    simp [hknown, hneAck, hneError]

/-! ### Executing a frame row -/

section FrameRow

variable {i : Instr} {c : Byte} {o : FrameOps} {s : State} (hi : i.frame? = some (c, o))
include hi

theorem exec_frame_of_scanning (hc : s.ctrl.scanning) : exec i s = .next (s.completeFrame (frameOf c o)) := by
  rw [exec_frame hi]
  exact if_pos hc

theorem exec_frame_of_not_scanning (hc : ¬ s.ctrl.scanning) : exec i s = .next s := by
  rw [exec_frame hi]
  exact if_neg hc

end FrameRow

/-- The checksum verdict on the frame of a row (40_checksum.md R102). -/
theorem checksumMatches_iff {p : Params} {c : Byte} {o : FrameOps} :
    ChecksumMatches p c o ↔ cksumCheck p.cksumZeroCmdCorrection (frameOf c o) = true := by
  rw [ChecksumMatches, ← cat16_toNat, BitVec.toNat_inj, cksumCheck, beq_iff_eq]
  rfl

theorem keepResponse_eq (s : State) (m : MessageData) :
    s.keepResponse m
      = { s with lastResp := some m, ackSeen := if m.cmd = Config.ackCode then true else s.ackSeen } := by
  by_cases h : m.cmd = Config.ackCode <;> simp [State.keepResponse, State.matchAck, h]

theorem continueScan_eq_scansOn (s : State) : s.continueScan = scansOn s := by
  unfold State.continueScan scansOn State.moreInBatch State.goto
  by_cases hmore : s.rxbIdx < s.rxbLen <;> by_cases hc : s.ctrl = .waitScan <;> simp [hmore, hc]

/-! ### The policy decision after a valid frame (43_session.md R160) -/

section WaitPolicy

variable {s : State}

theorem waitPolicyEnd_of_anyFrame (hp : s.params.waitPolicy = .anyFrame) : s.waitPolicyEnd = s.finish .ok := by
  simp [State.waitPolicyEnd, hp]

theorem waitPolicyEnd_of_strictAck (hp : s.params.waitPolicy = .strictAck)
    (hack : s.ackSeen = true ∨ s.waitAckreq = false) : s.waitPolicyEnd = s.finish .ok := by
  simp [State.waitPolicyEnd, hp, hack]

theorem waitPolicyEnd_of_strictAck_unseen (hp : s.params.waitPolicy = .strictAck) (hack : s.ackSeen = false)
    (hreq : s.waitAckreq = true) : s.waitPolicyEnd = scansOn s := by
  simp [State.waitPolicyEnd, hp, hack, hreq, continueScan_eq_scansOn]

theorem waitPolicyEnd_of_untilIdle_more (hp : s.params.waitPolicy = .untilIdle) (hmore : s.rxbIdx < s.rxbLen) :
    s.waitPolicyEnd = s := by
  simp [State.waitPolicyEnd, hp, State.moreInBatch, hmore]

theorem waitPolicyEnd_of_untilIdle_exhausted (hp : s.params.waitPolicy = .untilIdle) (hmore : ¬ s.rxbIdx < s.rxbLen) :
    s.waitPolicyEnd = s.goto .waitPending := by
  simp [State.waitPolicyEnd, hp, State.moreInBatch, hmore]

end WaitPolicy

/-- Settles O43: the catalogue test comes first. -/
theorem unknownCodeEndsTheOperation : Obligations.UnknownCodeEndsTheOperation := by
  intro i c o s hi hc hfail hunknown
  rw [exec_frame_of_scanning hi hc, completeFrame_of_unknown (by simpa using hunknown), finish_eq_sendEnded hfail]
  rfl

/-- Settles O44: the checksum verdict comes before the message is kept. -/
theorem badChecksumEndsTheOperation : Obligations.BadChecksumEndsTheOperation := by
  intro i c o s hi hc hfail hknown hck
  rw [checksumMatches_iff, Bool.not_eq_true] at hck
  rw [exec_frame_of_scanning hi hc, completeFrame_of_badChecksum (by simpa using hknown) hck, finish_eq_sendEnded hfail]
  rfl

/-- A valid frame of a row is interpreted. -/
theorem exec_frame_of_valid {i : Instr} {c : Byte} {o : FrameOps} {s : State} (hi : i.frame? = some (c, o))
    (hc : s.ctrl.scanning) (hknown : c ∈ s.params.knownCodes) (hck : ChecksumMatches s.params c o) :
    exec i s = .next (s.interpret ⟨c, o.ph, o.pl⟩) := by
  rw [exec_frame_of_scanning hi hc, completeFrame_of_valid (f := frameOf c o) hknown (checksumMatches_iff.mp hck)]
  rfl

theorem interpret_of_error {m : MessageData} (h : m.cmd = Config.errorCode) (s : State) :
    s.interpret m = (s.keepResponse m).finish (.moduleError m.pl) := if_pos h

theorem interpret_of_ne_error {m : MessageData} (h : m.cmd ≠ Config.errorCode) (s : State) :
    s.interpret m
      = if s.ctrl = .waitScan then (s.keepResponse m).waitPolicyEnd else (s.keepResponse m).continueScan := if_neg h

/-- Settles O45: a valid error notification ends the operation before the policy is looked at. -/
theorem errorNotificationEndsTheOperation : Obligations.ErrorNotificationEndsTheOperation := by
  intro o s hc hfail ha hck
  obtain ⟨_, herror, _⟩ := admissible_iff.mp ha
  rw [exec_frame_of_valid (c := 0x40#8) (o := o) rfl hc herror hck, interpret_of_error rfl, keepResponse_eq,
    finish_eq_sendEnded (by exact hfail)]
  rfl

/-- Settles O46: the message is kept, and then the drain goes on or the policy decides. -/
theorem validFrameIsInterpreted : Obligations.ValidFrameIsInterpreted := by
  intro i c o s hi hfail hknown hck hne u
  have hexec (hc : s.ctrl.scanning) :
      exec i s = .next (if s.ctrl = .waitScan then u.waitPolicyEnd else u.continueScan) := by
    rw [exec_frame_of_valid hi hc hknown hck, interpret_of_ne_error hne, keepResponse_eq]
  have hwait (hc : s.ctrl = .waitScan) : exec i s = .next u.waitPolicyEnd := by rw [hexec (.inl hc), if_pos hc]
  have hends : u.finish .ok = sendEnded u .ok := finish_eq_sendEnded (s := u) hfail .ok
  refine ⟨fun hc => ?drain, fun hc hp => ?anyFrame, fun hc hp hack => ?acknowledged, fun hc hp hack hreq => ?notYet,
    fun hc hp hmore => ?more, fun hc hp hmore => ?exhausted⟩
  case drain => rw [hexec (.inr hc), if_neg (by simp [hc]), continueScan_eq_scansOn]
  case anyFrame => rw [hwait hc, waitPolicyEnd_of_anyFrame (s := u) hp, hends]
  case acknowledged => rw [hwait hc, waitPolicyEnd_of_strictAck (s := u) hp hack, hends]
  case notYet => rw [hwait hc, waitPolicyEnd_of_strictAck_unseen (s := u) hp hack hreq]
  case more => rw [hwait hc, waitPolicyEnd_of_untilIdle_more (s := u) hp hmore]
  case exhausted => rw [hwait hc, waitPolicyEnd_of_untilIdle_exhausted (s := u) hp hmore, State.goto]

/-- Settles O47: only the two scanning states look at a frame. -/
theorem framesAreReadOnlyWhenScanning : Obligations.FramesAreReadOnlyWhenScanning :=
  fun _ _ _ _ hi hc => exec_frame_of_not_scanning hi hc

end Sys2Proof.Machine
end

section
/-! PROOFS. The calls and sleeps of a running operation (43_session.md R150 to R173): what each answer leads to, and what
the step leaves as it was. -/

namespace Sys2Proof.Machine

/-! ### The path after a successful write (43_session.md R151) -/

section Paths

variable {s : State}

theorem choosePath_of_command (hcmd : s.opMd.cmd ≠ s.params.resetCode) (hfb : s.cfgFeedback = true) :
    s.choosePath = s.startWait true := by
  simp [State.choosePath, hcmd, hfb]

theorem choosePath_of_reset_waits (hcmd : s.opMd.cmd = s.params.resetCode) (hfb : s.cfgFeedback = true)
    (hwaits : s.params.resetWaits = true) : s.choosePath = s.startWait false := by
  simp [State.choosePath, hcmd, hfb, hwaits]

theorem choosePath_of_reset_waits_not (hcmd : s.opMd.cmd = s.params.resetCode) (hwaits : s.params.resetWaits = false) :
    s.choosePath = s.startNofb := by
  simp [State.choosePath, hcmd, hwaits]

theorem choosePath_of_no_feedback (hfb : s.cfgFeedback = false) : s.choosePath = s.startNofb := by
  simp [State.choosePath, hfb]

theorem startNofb_ctrl (s : State) :
    (s.params.nofbPolicy = .drain → s.startNofb.ctrl = .drainPoll)
      ∧ (s.params.nofbPolicy = .fixedDelay → s.startNofb.ctrl = .nofbSleep) := by
  constructor <;> intro hp <;> simp [State.startNofb, hp]

theorem startWait_begins (req : Bool) :
    (s.startWait req).ctrl = .waitPoll ∧ (s.startWait req).waitAckreq = req
      ∧ (s.startWait req).waitStart = (s.startWait req).env.now := ⟨rfl, rfl, rfl⟩

/-- The state right after a successful write, before its path is chosen. -/
def State.afterSent (s : State) : State := (s.afterWrite.putWire s.txFrame.bytes).recordSent

theorem txStep_of_ok (hw : s.writeAnswer = .ok) : txStep s = s.afterSent.choosePath := by
  simp [txStep, hw, State.afterSent, State.txFrame]

@[simp] theorem afterSent_params (s : State) : s.afterSent.params = s.params := by simp [State.afterSent]
@[simp] theorem afterSent_cfgFeedback (s : State) : s.afterSent.cfgFeedback = s.cfgFeedback := by simp [State.afterSent]
@[simp] theorem afterSent_opMd (s : State) : s.afterSent.opMd = s.opMd := by simp [State.afterSent]

end Paths

/-- Settles O36: the state after the write, and the path chosen from it, which writes only the wait's own registers. -/
theorem successfulWriteTakesItsPath : Obligations.SuccessfulWriteTakesItsPath := by
  intro s ha hr hc hw waits drainsOrSleeps
  have hpath : txStep s.afterResetInput = s.afterResetInput.afterSent.choosePath := txStep_of_ok hw
  have hnofb (h : s.afterResetInput.afterSent.choosePath = s.afterResetInput.afterSent.startNofb) :
      drainsOrSleeps (txStep s.afterResetInput) := by
    simpa [drainsOrSleeps, hpath, h] using startNofb_ctrl s.afterResetInput.afterSent
  refine ⟨_, step_writing ha hr hc, ?lastSent, ?ackSeen, ?wire, fun hcmd hfb => ?command, fun hfb => ?noFeedback,
    fun hcmd hfb hwaits => ?resetWaits, fun hcmd _ hwaits => ?resetNot, by simp [SameConfig], by simp,
    by simp [SameScanner], ?batch, ?host, ?opTxFail, by simp, ?nested, by simp, stepCase_now (s := s.afterResetInput) (.tx hc), ?taken⟩
  case lastSent => simp [txStep_lastSent, hw]
  case ackSeen => simp [txStep_ackSeen, hw]
  case wire =>
    rw [txStep_txStream, written_of_ok (by simpa using hw)]
    rfl
  case command =>
    rw [hpath, choosePath_of_command (by simpa using hcmd) (by simpa using hfb)]
    exact startWait_begins true
  case noFeedback => exact hnofb (choosePath_of_no_feedback (by simpa using hfb))
  case resetWaits =>
    rw [hpath, choosePath_of_reset_waits (by simpa using hcmd) (by simpa using hfb) (by simpa using hwaits)]
    exact startWait_begins false
  case resetNot => exact hnofb (choosePath_of_reset_waits_not (by simpa using hcmd) (by simpa using hwaits))
  all_goals rw [hpath]
  case batch => simp [SameBatch, State.afterSent]
  case host => simp [SameHost, State.afterSent]
  case opTxFail => simp [State.afterSent]
  case nested => simp [State.afterSent]
  case taken => simp [WriteTaken, State.afterSent]

/-! ### A poll point (43_session.md R157) -/

section PollPoint

variable {s : State}

/-- `CFG_TIMEOUT` has elapsed at the time the poll point reads. -/
def State.Late (s : State) : Prop := s.cfgTimeout ≤ s.timedPoll.env.now - s.waitStart

theorem timedPoll_timeoutElapsed_iff : s.timedPoll.timeoutElapsed = true ↔ s.Late := by
  simp [State.timeoutElapsed, State.Late]

theorem waitPollStep_notready_late (hp : s.pollAnswer = .notready) (hl : s.Late) :
    waitPollStep s = s.timedPoll.finish .userTimeout := by
  simp [waitPollStep, hp, timedPoll_timeoutElapsed_iff, hl]

theorem waitPollStep_notready_early (hp : s.pollAnswer = .notready) (hl : ¬ s.Late) :
    waitPollStep s = s.timedPoll.goto .waitSleep := by
  simp [waitPollStep, hp, timedPoll_timeoutElapsed_iff, hl]

theorem waitPollStep_ready_late (hp : s.pollAnswer = .ready) (halways : s.params.timeoutCheckAlways = true)
    (hl : s.Late) :
    waitPollStep s = s.timedPoll.finish .userTimeout := by
  simp [waitPollStep, hp, timedPoll_timeoutElapsed_iff, hl, halways]

theorem waitPollStep_ready (hp : s.pollAnswer = .ready) (h : s.params.timeoutCheckAlways = false ∨ ¬ s.Late) :
    waitPollStep s = s.timedPoll.goto .waitRead := by
  rcases h with h | h <;> simp [waitPollStep, hp, timedPoll_timeoutElapsed_iff, h]

/-- Without a transport error a poll point ends the wait for the time, sleeps or reads. -/
theorem waitPollStep_cases (hp : ∀ e, s.pollAnswer ≠ .terr e) :
    waitPollStep s = s.timedPoll.finish .userTimeout ∨ waitPollStep s = s.timedPoll.goto .waitSleep
      ∨ waitPollStep s = s.timedPoll.goto .waitRead := by
  unfold waitPollStep
  split
  · exact absurd ‹_› (hp _)
  all_goals split <;> simp

end PollPoint

/-- Settles O39: a poll point by its answer and the time it reads, and the sleep after it. -/
theorem timeoutCheckedAtPollPoint : Obligations.TimeoutCheckedAtPollPoint := by
  refine ⟨?poll, ?sleep⟩
  case poll =>
    intro s ha hr hc hfail hp timesOut
    have hcases := waitPollStep_cases (s := s.afterResetInput) hp
    have hnow : (waitPollStep s.afterResetInput).env.now = s.afterResetInput.timedPoll.env.now := by
      rcases hcases with h | h | h <;> simp [h]
    have hpolls : (waitPollStep s.afterResetInput).env.polls = s.env.polls.tail := by
      rcases hcases with h | h | h <;> simp [h]
    have htimesOut : timesOut (s.afterResetInput.timedPoll.finish .userTimeout) := by
      rw [finish_eq_sendEnded (by simpa using hfail), sendEnded]
      constructor <;> intro hn <;> simp [hn, ended, SameHost]
    refine ⟨_, _, step_waitPoll ha hr hc, rfl, ?_, fun hp hl => ?_, fun hp hl => ?_, fun hp halways => ?_,
      fun hp halways hl => ?_, fun hp halways hl => ?_, by simp [SameConfig], by simp [SameSession], by simp [SameScanner],
      by simp, by simp, by simp, by simp, by simp [PollTaken, hpolls], fun hon => ?_⟩
    · simp [hnow]
    · rw [hnow] at hl
      rwa [waitPollStep_notready_late (s := s.afterResetInput) hp hl]
    · rw [hnow] at hl
      rw [waitPollStep_notready_early (s := s.afterResetInput) hp hl, State.goto_ctrl]
    · rw [waitPollStep_ready (s := s.afterResetInput) hp (.inl halways), State.goto_ctrl]
    · rw [hnow] at hl
      rw [waitPollStep_ready (s := s.afterResetInput) hp (.inr hl), State.goto_ctrl]
    · rw [hnow] at hl
      rwa [waitPollStep_ready_late (s := s.afterResetInput) hp halways hl]
    · rcases hcases with h | h | h
      · rw [h, finish_eq_sendEnded (by simpa using hfail), sendEnded] at hon
        split at hon <;> simp [ended] at hon
      all_goals simp [h, SameOperation, SameBatch, SameHost]
  case sleep =>
    intro s ha hr hc
    refine ⟨_, s.tick, step_waitSleep ha hr hc, rfl, ?_⟩
    simp [waitSleepStep, SameConfig, SameSession, SameScanner, SameBatch, SameOperation, SameHost, SameTransport]

/-! ### A silent transport (70_reset_and_hazards.md R264) -/

theorem pollAnswer_of_cons {s : State} {a : PollAnswer} {rest : List PollAnswer} (h : s.env.polls = a :: rest) :
    s.pollAnswer = a := by
  simp [State.pollAnswer, h]

theorem resetNow_of_nil {s : State} (h : s.env.resets = []) : s.resetNow = false := by simp [State.resetNow, h]

theorem afterResetInput_of_nil {s : State} (h : s.env.resets = []) : s.afterResetInput = s := by
  have htail : s.env.resets.tail = s.env.resets := by simp [h]
  rw [State.afterResetInput, htail]

theorem run_one {s t : State} (h : step s = .next t) : Sys2Proof.core.run 1 s = .next t := run_succ (k := 0) h

/-- A silent poll point that is not late sleeps, and one poll interval later it is a poll point again. -/
theorem run_silent_poll {s : State} {rest : List PollAnswer} (ha : s.params.admissible = true) (hr : s.env.resets = [])
    (hc : s.ctrl = .waitPoll) (hp : s.env.polls = .notready :: rest) (hl : ¬ s.Late) (k : Nat) :
    Sys2Proof.core.run (k + 2) s = Sys2Proof.core.run k (waitSleepStep (s.timedPoll.goto .waitSleep)) := by
  have hpoll : step s = .next (s.timedPoll.goto .waitSleep) := by
    rw [step_waitPoll ha (resetNow_of_nil hr) hc, afterResetInput_of_nil hr,
      waitPollStep_notready_early (pollAnswer_of_cons hp) hl]
  have hquiet : (s.timedPoll.goto .waitSleep).env.resets = [] := by simpa using hr
  have hsleep : step (s.timedPoll.goto .waitSleep) = .next (waitSleepStep (s.timedPoll.goto .waitSleep)) := by
    rw [step_waitSleep (by simpa using ha) (resetNow_of_nil hquiet) rfl, afterResetInput_of_nil hquiet]
  rw [run_succ hpoll, run_succ hsleep]

/-- A silent poll point that is late ends the operation. -/
theorem run_silent_poll_late {s : State} {rest : List PollAnswer} (ha : s.params.admissible = true)
    (hr : s.env.resets = []) (hn : s.nested = false) (hc : s.ctrl = .waitPoll) (hp : s.env.polls = .notready :: rest)
    (hl : s.Late) : Sys2Proof.core.run 1 s = .next (ended s.timedPoll .userTimeout) := by
  refine run_one ?_
  rw [step_waitPoll ha (resetNow_of_nil hr) hc, afterResetInput_of_nil hr,
    waitPollStep_notready_late (pollAnswer_of_cons hp) hl, finish_of_not_nested (by simpa using hn)]

/-- Settles O40, by induction on the polls to come: each that is not late costs one sleep of `POLL_INTERVAL`. -/
theorem silenceEndsInUserTimeout : Obligations.SilenceEndsInUserTimeout := by
  intro n
  induction n with
  | zero =>
    intro s later ha hr hn hc hp hstart htime
    have hl : s.Late := by simp [State.Late]; omega
    refine ⟨1, _, by omega, run_silent_poll_late ha hr hn hc hp hl, rfl, rfl, hl, ?_⟩
    simp [ended, SameSession, SameScanner]
  | succ n ih =>
    intro s later ha hr hn hc hp hstart htime
    by_cases hl : s.Late
    · refine ⟨1, _, by omega, run_silent_poll_late ha hr hn hc hp hl, rfl, rfl, hl, ?_⟩
      simp [ended, SameSession, SameScanner]
    · obtain ⟨u, hu⟩ : ∃ u, u = waitSleepStep (s.timedPoll.goto .waitSleep) := ⟨_, rfl⟩
      obtain ⟨hparams, hstarted, htimeout⟩ :
          u.params = s.params ∧ u.waitStart = s.waitStart ∧ u.cfgTimeout = s.cfgTimeout := by simp [hu]
      have hnow : s.env.now + s.params.pollInterval ≤ u.env.now := by
        simp [hu, waitSleepStep]
        omega
      have hintervals : (n + 1) * s.params.pollInterval = n * s.params.pollInterval + s.params.pollInterval :=
        Nat.succ_mul _ _
      obtain ⟨k, t, hk, hrun, hidle, hresult, hlate, hsession, hscanner, hwire⟩ :=
        ih u later (by rwa [hparams]) (by simpa [hu] using hr) (by simpa [hu] using hn) (by simp [hu])
          (by simp [hu, hp, List.replicate_succ]) (by rw [hstarted]; omega) (by rw [hparams, hstarted, htimeout]; omega)
      rw [hstarted, htimeout] at hlate
      refine ⟨k + 2, t, by omega, ?_, hidle, hresult, hlate, ?_, ?_, ?_⟩
      · rw [run_silent_poll ha hr hc hp hl, ← hu, hrun]
      · simpa [SameSession, hu] using hsession
      · simpa [SameScanner, hu] using hscanner
      · simpa [hu] using hwire

/-! ### A read (43_session.md R156, R167) -/

theorem readStep_batch {s : State} {l : List Byte} (h : s.readAnswer = .batch l) (scanning polling : Ctrl) :
    readStep s scanning polling
      = (s.afterRead.loadBatch l).goto (if l.isEmpty then polling else scanning) := by
  simp [readStep, h]

/-- What is left of the read answers after one that was within the limit. -/
theorem readsLeft_of_le {s : State} {l : List Byte} {rest : List ReadAnswer} (h : s.env.reads = .batch l :: rest)
    (hl : l.length ≤ s.params.rxBatchMax) : readsLeft s = rest := by
  simp [readsLeft, State.nextRead, h, hl]

/-- Of a longer answer the bytes beyond the limit are left (log 4). -/
theorem readsLeft_of_gt {s : State} {l : List Byte} {rest : List ReadAnswer} (h : s.env.reads = .batch l :: rest)
    (hl : s.params.rxBatchMax < l.length) : readsLeft s = .batch (l.drop s.params.rxBatchMax) :: rest := by
  simp [readsLeft, State.nextRead, h, Nat.not_le.mpr hl]

theorem readAnswer_of_cons {s : State} {a : ReadAnswer} {rest : List ReadAnswer} (h : s.env.reads = a :: rest) :
    s.readAnswer = ReadAnswer.limit s.params.rxBatchMax a := by
  simp [State.readAnswer, State.nextRead, h]

/-- What the step of a read with the batch `l` leaves, whatever the states it leads to. -/
theorem step_read_batch {s : State} {l : List Byte} (ha : s.params.admissible = true) (hr : s.resetNow = false)
    (hc : s.ctrl = .waitRead ∨ s.ctrl = .drainRead) (h : s.readAnswer = .batch l) :
    step s = .next
      ((s.afterResetInput.afterRead.loadBatch l).goto
        (if l = [] then if s.ctrl = .waitRead then .waitPoll else .drainPoll
          else if s.ctrl = .waitRead then .waitScan else .drainScan)) := by
  rcases hc with hc | hc
  · simp [step_waitRead ha hr hc, readStep_batch (s := s.afterResetInput) h, hc]
  · simp [step_drainRead ha hr hc, readStep_batch (s := s.afterResetInput) h, hc]

/-- Settles O41: the batch is loaded, and only an empty one is followed by a poll. -/
theorem readLoadsTheBatch : Obligations.ReadLoadsTheBatch := by
  intro s l ha hr hc h
  have hlimit := readAnswer_length h
  refine ⟨hlimit, _, step_read_batch ha hr hc h, by simp, by simp, by simp, fun hl => by simp [hl], fun hl => by simp [hl],
    by simp [SameConfig], by simp [SameSession], by simp [SameScanner], by simp [SameOperation], by simp [SameHost],
    by simp, by simp, by simp [ReadTaken], fun rest hreads => ?_, fun m rest hreads hm => ?_⟩
  · simpa using readsLeft_of_le hreads hlimit
  · have htake : ReadAnswer.batch (m.take s.params.rxBatchMax) = .batch l := (readAnswer_of_cons hreads).symm.trans h
    exact ⟨(ReadAnswer.batch.inj htake).symm, by simpa using readsLeft_of_gt hreads hm⟩

/-! ### Natural termination (43_session.md R161) -/

theorem waitPendingStep_notready_missing {s : State} (hp : s.pollAnswer = .notready) (hreq : s.waitAckreq = true)
    (hack : s.ackSeen = false) : waitPendingStep s = s.afterPoll.finish .failedAck := by
  simp [waitPendingStep, hp, State.ackMissing, hreq, hack]

theorem waitPendingStep_notready_ok {s : State} (hp : s.pollAnswer = .notready)
    (h : s.waitAckreq = false ∨ s.ackSeen = true) : waitPendingStep s = s.afterPoll.finish .ok := by
  rcases h with h | h <;> simp [waitPendingStep, hp, State.ackMissing, h]

/-- Settles O42: the poll, and the acknowledgement check when it is not ready. -/
theorem naturalTerminationChecksTheAck : Obligations.NaturalTerminationChecksTheAck := by
  intro s ha hr hc hfail
  refine ⟨fun hp => ?notready, fun hp => ?ready⟩
  case notready =>
    have hends (r : Result) : s.afterResetInput.afterPoll.finish r = sendEnded s.afterResetInput.afterPoll r :=
      finish_eq_sendEnded (by simpa using hfail) r
    refine ⟨s.afterResetInput.afterPoll, by simp [SameConfig], by simp [SameSession], by simp [SameScanner],
      by simp [SameBatch], by simp [SameOperation], by simp [SameHost], by simp, by simp [PollTaken], fun hreq hack => ?_,
      fun h => ?_⟩
    · rw [step_waitPending ha hr hc, waitPendingStep_notready_missing (s := s.afterResetInput) hp hreq hack, hends]
    · rw [step_waitPending ha hr hc, waitPendingStep_notready_ok (s := s.afterResetInput) hp h, hends]
  case ready =>
    refine ⟨s.afterResetInput.afterPoll.goto .waitRead, ?_, rfl, by simp [SameConfig], by simp [SameSession],
      by simp [SameScanner], by simp [SameBatch], by simp [SameOperation], by simp [SameHost], by simp,
      by simp [PollTaken]⟩
    simp [step_waitPending ha hr hc, waitPendingStep, hp]

/-! ### The no-feedback path (43_session.md R166 to R168) -/

/-- Settles O48: the fixed delay is one sleep, the drain ends at a poll that is not ready. -/
theorem noFeedbackPathEndsWithOk : Obligations.NoFeedbackPathEndsWithOk := by
  intro s ha hr hfail
  refine ⟨fun hc => ?delay, fun hc hp => ?notready, fun hc hp => ?ready⟩
  case delay =>
    refine ⟨s.afterResetInput.passTime s.params.nofbDelay, ?_, by simp, by simp [SameTransport], by simp [SameConfig],
      by simp [SameSession], by simp [SameScanner], by simp [SameBatch], by simp [SameOperation], by simp [SameHost]⟩
    rw [step_nofbSleep ha hr hc, nofbSleepStep, finish_eq_sendEnded (by simpa using hfail)]
    rfl
  case notready =>
    refine ⟨s.afterResetInput.afterPoll, ?_, by simp [PollTaken], by simp [SameConfig], by simp [SameSession],
      by simp [SameScanner], by simp [SameBatch], by simp [SameOperation], by simp [SameHost]⟩
    rw [step_drainPoll ha hr hc, drainPollStep, afterResetInput_pollAnswer, hp]
    exact congrArg _ (finish_eq_sendEnded (by simpa using hfail) .ok)
  case ready =>
    refine ⟨s.afterResetInput.afterPoll.goto .drainRead, ?_, rfl, by simp [PollTaken], by simp [SameConfig],
      by simp [SameSession], by simp [SameScanner], by simp [SameBatch], by simp [SameOperation], by simp [SameHost]⟩
    simp [step_drainPoll ha hr hc, drainPollStep, hp]

/-! ### The flushes and the settle sleep of `INIT` (43_session.md R172, R173) -/

section Flush

variable {s : State}

theorem flushStep_ready (hf : s.flushRead = false) (hp : s.pollAnswer = .ready) :
    flushStep s = { s.afterPoll with flushRead := true } := by
  simp [flushStep, hf, hp]

theorem flushStep_not_ready (hf : s.flushRead = false) (hp : s.pollAnswer ≠ .ready) :
    flushStep s = s.afterPoll.afterFlush := by
  simp only [flushStep, hf]
  cases h : s.pollAnswer <;> simp_all

theorem flushStep_suspended (hf : s.flushRead = true) (hp : s.readAnswer = .suspended) : flushStep s = s.afterRead := by
  simp [flushStep, hf, hp]

theorem flushStep_read (hf : s.flushRead = true) (hp : s.readAnswer ≠ .suspended) :
    flushStep s = s.afterRead.afterFlush := by
  simp only [flushStep, hf]
  cases h : s.readAnswer <;> simp_all

theorem afterFlush_of_first (hc : s.ctrl = .initFlush1) : s.afterFlush = s.startResetSend := if_pos hc

theorem afterFlush_of_second (hc : s.ctrl = .initFlush2) (hn : s.nested = false) :
    s.afterFlush = ended { s with flushRead := false } .ok := by
  rw [State.afterFlush, if_neg (by simp [hc])]
  exact finish_of_not_nested (s := { s with flushRead := false }) hn .ok

/-- A flush that has ended leaves its control state. -/
theorem afterFlush_ctrl_ne (hc : s.ctrl.flushing) (hn : s.nested = false) : s.afterFlush.ctrl ≠ s.ctrl := by
  rcases hc with hc | hc
  · simp [afterFlush_of_first hc, hc]
  · simp [afterFlush_of_second hc hn, ended, hc]

/-- What follows a flush, after the call that ended it and led to `u` (43_session.md R170). -/
theorem afterFlush_leads {u : State} (huc : u.ctrl = s.ctrl) (hn : u.nested = false) (hparams : u.params = s.params)
    (hhost : SameHost s u) (hbatch : SameBatch s u) (hc : s.ctrl.flushing) :
    u.afterFlush.flushRead = false
      ∧ (s.ctrl = .initFlush1 → u.afterFlush.ctrl = .initSend ∧ u.afterFlush.nested = true
          ∧ u.afterFlush.opMd = ⟨s.params.resetCode, 0x00#8, 0x00#8⟩ ∧ SameHost s u.afterFlush ∧ SameBatch s u.afterFlush)
      ∧ (s.ctrl = .initFlush2 → u.afterFlush.ctrl = .idle ∧ u.afterFlush.result = some .ok
          ∧ u.afterFlush.env.hostReply = some .ok ∧ u.afterFlush.rxbLen = 0 ∧ u.afterFlush.rxbIdx = 0) := by
  rcases hc with hc | hc
  · rw [afterFlush_of_first (huc.trans hc)]
    exact ⟨rfl, fun _ => ⟨rfl, rfl, congrArg resetMessage hparams, hhost, hbatch⟩, by simp [hc]⟩
  · rw [afterFlush_of_second (huc.trans hc) hn]
    exact ⟨rfl, by simp [hc], fun _ => ⟨rfl, rfl, rfl, rfl, rfl⟩⟩

/-- A poll of a flush takes a poll answer and nothing else. -/
theorem flushStep_pollTaken (hf : s.flushRead = false) : PollTaken s (flushStep s) := by
  by_cases hp : s.pollAnswer = .ready
  · simp [flushStep_ready hf hp, PollTaken]
  · simp [flushStep_not_ready hf hp, PollTaken]

/-- A read of a flush takes a read answer and nothing else. -/
theorem flushStep_readTaken (hf : s.flushRead = true) : ReadTaken s (flushStep s) := by
  by_cases hp : s.readAnswer = .suspended
  · simp [flushStep_suspended hf hp, ReadTaken]
  · simp [flushStep_read hf hp, ReadTaken]

/-- While the flush goes on nothing but its own mark and the transport moves. -/
theorem flushStep_goes_on (hc : s.ctrl.flushing) (hn : s.nested = false) (h : (flushStep s).ctrl = s.ctrl) :
    (flushStep s).nested = false ∧ SameBatch s (flushStep s) ∧ SameHost s (flushStep s) := by
  cases hf : s.flushRead
  · by_cases hp : s.pollAnswer = .ready
    · simp [flushStep_ready hf hp, SameBatch, SameHost, hn]
    · rw [flushStep_not_ready hf hp, ← State.afterPoll_ctrl s] at h
      exact absurd h (afterFlush_ctrl_ne (by simpa using hc) (by simpa using hn))
  · by_cases hp : s.readAnswer = .suspended
    · simp [flushStep_suspended hf hp, SameBatch, SameHost, hn]
    · rw [flushStep_read hf hp, ← State.afterRead_ctrl s] at h
      exact absurd h (afterFlush_ctrl_ne (by simpa using hc) (by simpa using hn))

end Flush

/-- Settles O49: a flush by its mark and the answer of its call; what it reads is taken from the transport and dropped. -/
theorem flushDropsWhatItReads : Obligations.FlushDropsWhatItReads := by
  intro s ha hr hc hn
  have htaken (hf : s.flushRead = true) : ReadTaken s (flushStep s.afterResetInput) :=
    flushStep_readTaken (s := s.afterResetInput) hf
  refine ⟨_, step_flushing ha hr hc, by simp [SameConfig], by simp [SameSession], by simp [SameScanner], by simp, by simp,
    by simp, flushStep_goes_on (s := s.afterResetInput) hc hn, flushStep_pollTaken (s := s.afterResetInput), htaken,
    fun l rest hf hreads hl => (htaken hf).2.1.trans (readsLeft_of_le hreads hl), fun hf hp => ?ready,
    fun hf hp => ?suspended, ?ends⟩
  case ready => simp [flushStep_ready (s := s.afterResetInput) hf hp]
  case suspended => simp [flushStep_suspended (s := s.afterResetInput) hf hp, hf]
  case ends =>
    rintro (⟨hf, hp⟩ | ⟨hf, hp⟩)
    · rw [flushStep_not_ready (s := s.afterResetInput) hf hp]
      exact afterFlush_leads (by simp) (by simpa using hn) (by simp) (by simp [SameHost]) (by simp [SameBatch]) hc
    · rw [flushStep_read (s := s.afterResetInput) hf hp]
      exact afterFlush_leads (by simp) (by simpa using hn) (by simp) (by simp [SameHost]) (by simp [SameBatch]) hc

/-- Settles O50: the sleep by `settleTime`, which is the override or the default. -/
theorem settleSleepLastsItsTime : Obligations.SettleSleepLastsItsTime := by
  intro s ha hr hc
  refine ⟨_, s.tick, step_settle ha hr hc, rfl, rfl, fun d hd => ?_, fun hd => ?_, ?_⟩
  · simp [settleStep, settleTime, hd]
  · simp [settleStep, settleTime, hd]
  · simp [SameConfig, SameSession, SameScanner, SameBatch, SameHost, SameTransport]

/-! ### Calls that have not returned (43_session.md R156, 70_reset_and_hazards.md R262) -/

theorem readsLeft_of_suspended {s : State} (h : s.readAnswer = .suspended) : readsLeft s = s.env.reads.tail := by
  unfold State.readAnswer at h
  unfold readsLeft
  cases hnext : s.nextRead <;> simp [hnext, ReadAnswer.limit] at h ⊢

theorem step_write_suspended {s : State} (ha : s.params.admissible = true) (hr : s.resetNow = false)
    (hc : s.ctrl.writing) (hw : s.writeAnswer = .suspended) : step s = .next s.afterResetInput.afterWrite := by
  simp [step_writing ha hr hc, txStep, hw]

theorem step_read_suspended {s : State} (ha : s.params.admissible = true) (hr : s.resetNow = false)
    (hc : s.ctrl = .waitRead ∨ s.ctrl = .drainRead ∨ (s.ctrl.flushing ∧ s.flushRead = true))
    (hread : s.readAnswer = .suspended) : step s = .next s.afterResetInput.afterRead := by
  rcases hc with hc | hc | ⟨hc, hf⟩
  · simp [step_waitRead ha hr hc, readStep, hread]
  · simp [step_drainRead ha hr hc, readStep, hread]
  · rw [step_flushing ha hr hc, flushStep_suspended (s := s.afterResetInput) hf hread]

/-- Settles O60: the step takes the answer of the call from its queue and changes nothing else. -/
theorem suspendedCallsLeaveTheEngine : Obligations.SuspendedCallsLeaveTheEngine := by
  intro s ha hr writes reads h
  have hexclusive (hw : writes) (hread : reads) : False := by
    obtain ⟨hw | hw, _⟩ := hw <;> simp [reads, hw, Ctrl.flushing] at hread
  rcases h with h | h
  · refine ⟨s.afterResetInput.afterWrite.env, ?_, by simp, by simp, by simp, by simp, by simp, by simp, fun _ => by simp,
      fun hread => (hexclusive h hread).elim⟩
    rw [step_write_suspended ha hr h.1 h.2, afterWrite_eq]
    rfl
  · refine ⟨s.afterResetInput.afterRead.env, ?_, by simp, by simp, by simp, by simp, by simp, by simp,
      fun hw => (hexclusive hw h).elim, fun _ => by simp [readsLeft_of_suspended h.2]⟩
    rw [step_read_suspended ha hr h.1 h.2, afterRead_eq]
    rfl

end Sys2Proof.Machine
end

section
/-! PROOFS. The status view (10_state.md R32) and the result encoding (60_exceptions.md R221), field by field. -/

namespace Sys2Proof.Machine

theorem getLsbD_eq_iff (w : Word32) (i : Nat) (b : Bool) : w.getLsbD i = b ↔ w.toNat / 2 ^ i % 2 = b.toNat := by
  rw [← BitVec.testBit_toNat, Nat.testBit_eq_decide_div_mod_eq]
  cases b <;> simp

theorem bitAt_eq (b : Bool) (i : Nat) : bitAt b i = b.toNat * 2 ^ i := by
  cases b <;> simp [bitAt]

theorem statusWord_toNat (s : State) :
    s.statusWord.toNat
      = s.ackSeen.toNat + s.lastSent.isSome.toNat * 2 + s.lastResp.isSome.toNat * 4 + s.cfgFeedback.toNat * 8
        + s.phase.code.toNat * 16 + s.busy.toNat * 256 + (!(s.ctrl == .uninit)).toNat * 512 := by
  have := s.ackSeen.toNat_le
  have := s.lastSent.isSome.toNat_le
  have := s.lastResp.isSome.toNat_le
  have := s.cfgFeedback.toNat_le
  have := s.phase.code.isLt
  have := s.busy.toNat_le
  have := (!(s.ctrl == .uninit)).toNat_le
  simp only [State.statusWord, bitAt_eq, BitVec.toNat_ofNat]
  omega

theorem messageWord_toNat (md : MessageData) :
    (messageWord (some md)).toNat = md.cmd.toNat * 65536 + md.ph.toNat * 256 + md.pl.toNat := by
  simp only [messageWord, BitVec.toNat_ofNat]
  omega

/-- A message stands in its view word byte by byte. -/
theorem messageWord_fields (md : MessageData) :
    (messageWord (some md)).extractLsb' 16 8 = md.cmd ∧ (messageWord (some md)).extractLsb' 8 8 = md.ph
      ∧ (messageWord (some md)).extractLsb' 0 8 = md.pl := by
  simp only [extractLsb'_eq_iff, messageWord_toNat]
  omega

theorem busy_eq (s : State) : (decide (s.ctrl ≠ .idle) && decide (s.ctrl ≠ .uninit)) = s.busy := by
  cases hc : s.ctrl <;> simp [State.busy, hc]

/-- Each field of `STATUS` is a digit of its sum, and no two of them overlap. -/
theorem statusWord_fields (s : State) :
    s.statusWord.getLsbD 0 = s.ackSeen ∧ s.statusWord.getLsbD 1 = s.lastSent.isSome
      ∧ s.statusWord.getLsbD 2 = s.lastResp.isSome ∧ s.statusWord.getLsbD 3 = s.cfgFeedback
      ∧ s.statusWord.extractLsb' 4 4 = s.phase.code ∧ s.statusWord.getLsbD 8 = s.busy
      ∧ s.statusWord.getLsbD 9 = !(s.ctrl == .uninit) ∧ s.statusWord.extractLsb' 10 22 = 0#22 := by
  have := s.ackSeen.toNat_le
  have := s.lastSent.isSome.toNat_le
  have := s.lastResp.isSome.toNat_le
  have := s.cfgFeedback.toNat_le
  have := s.phase.code.isLt
  have := s.busy.toNat_le
  have := (!(s.ctrl == .uninit)).toNat_le
  simp only [getLsbD_eq_iff, extractLsb'_eq_iff, statusWord_toNat, BitVec.toNat_ofNat]
  omega

/-- Settles O56: the fields of `STATUS`, the message words, which are 0 without a message, and `TIMEOUT` as it stands. -/
theorem statusViewShowsTheRegisters : Obligations.StatusViewShowsTheRegisters := by
  intro s
  obtain ⟨hack, hsent, hresp, hfeedback, hphase, hbusy, hsession, hreserved⟩ := statusWord_fields s
  have hmessage {m : Option MessageData} {md : MessageData} (h : m = some md) :
      (messageWord m).extractLsb' 16 8 = md.cmd ∧ (messageWord m).extractLsb' 8 8 = md.ph
        ∧ (messageWord m).extractLsb' 0 8 = md.pl := h ▸ messageWord_fields md
  have hnone {m : Option MessageData} (h : m = none) : (messageWord m).extractLsb' 0 24 = 0#24 := h ▸ rfl
  refine ⟨hack, hsent, hresp, hfeedback, hphase, hbusy.trans (busy_eq s).symm, hsession.trans ?_, hreserved,
    fun md => hmessage, fun md => hmessage, hnone, hnone, rfl⟩
  cases hc : s.ctrl <;> simp

/-! ### The result word -/

theorem resultWord_toNat {s : State} {r : Result} (h : s.result = some r) :
    s.resultWord.toNat = r.code.toNat + r.detail.toNat * 256 + 65536 := by
  have := r.code.isLt
  simp only [State.resultWord, h, BitVec.toNat_ofNat]
  omega

theorem resultWord_eq {s : State} {r : Result} (h : s.result = some r) :
    s.resultWord = BitVec.ofNat 32 (r.code.toNat + r.detail.toNat * 256 + 65536) := by
  simp [State.resultWord, h]

/-- The fields of a valid result word. -/
theorem resultWord_fields {s : State} {r : Result} (h : s.result = some r) :
    s.resultWord.getLsbD 16 = true ∧ s.resultWord.extractLsb' 0 4 = r.code ∧ s.resultWord.extractLsb' 8 8 = r.detail := by
  have := r.code.isLt
  simp only [getLsbD_eq_iff, extractLsb'_eq_iff, resultWord_toNat h, Bool.toNat_true]
  omega

theorem Result.code_le (r : Result) : r.code.toNat ≤ 8 := by
  cases r <;> simp [Result.code]

/-- Settles O57: the word of a result by its code and detail. -/
theorem resultWordShowsCodeAndDetail : Obligations.ResultWordShowsCodeAndDetail := by
  intro s
  have hbyte (n : Nat) (c : Byte) :
      BitVec.ofNat 32 (n + c.toNat * 256 + 65536) = BitVec.ofNat 32 (0x10000 + n + c.toNat * 256) :=
    congrArg _ (by omega)
  refine ⟨fun h => by simp [State.resultWord, h], fun r h => ?_, fun c h => ?_, fun c h => ?_, fun b h => ?_,
    resultWord_eq, resultWord_eq, resultWord_eq, resultWord_eq, fun e h => (resultWord_fields h).2.1,
    fun e h => (resultWord_fields h).2.1⟩
  · obtain ⟨hvalid, hcode, hdetail⟩ := resultWord_fields h
    exact ⟨hvalid, hcode, hdetail, r.code_le⟩
  all_goals exact (resultWord_eq h).trans (hbyte _ _)

end Sys2Proof.Machine
end

section
/-! PROOFS. A `SEND` that the module acknowledges, from the request to its result (43_session.md R150 to R161). -/

namespace Sys2Proof.Machine

/-! ### Several steps -/

theorem core_run_add {M : Host.Core} {n : Nat} (m : Nat) {a b : M.State} (h : M.run n a = .next b) :
    M.run (n + m) a = M.run m b := by
  induction n generalizing a with
  | zero =>
    cases h
    rw [Nat.zero_add]
  | succ n ih =>
    cases hstep : M.step a with
    | next c =>
      rw [core_run_succ hstep] at h
      rw [Nat.add_right_comm, core_run_succ hstep, ih h]
    | fault r => simp [Host.Core.run, hstep] at h
    | refused r => simp [Host.Core.run, hstep] at h

/-- Several steps and then more of them. -/
theorem run_add {s t : State} {n : Nat} (m : Nat) (h : Sys2Proof.core.run n s = .next t) :
    Sys2Proof.core.run (n + m) s = Sys2Proof.core.run m t :=
  core_run_add (M := Sys2Proof.core) m h

/-! ### Scanning the bytes of a batch -/

/-- The scanner has taken the bytes `l` of the batch. -/
def State.scanned (s : State) (l : List Byte) : State :=
  { s with
      rxbIdx := s.rxbIdx + l.length
      phase := (scanAll s.phase s.fbuf l).2.1
      fbuf := (scanAll s.phase s.fbuf l).2.2 }

theorem scanned_cons (s : State) (b : Byte) (l : List Byte) : s.scanned (b :: l) = (s.takeByte b).scanned l := by
  simp [State.scanned, State.takeByte, State.consume, State.scanByte, scanAll, Nat.add_assoc, Nat.add_comm]

/-- Bytes that complete no frame, with more of the batch behind them, are taken in as many steps. -/
theorem run_scanned {l rest : List Byte} {s : State} (ha : s.params.admissible = true) (hr : s.env.resets = [])
    (hc : s.ctrl.scanning) (hbytes : s.rxb.drop s.rxbIdx = l ++ rest) (hmore : s.rxbIdx + l.length < s.rxbLen)
    (hquiet : .complete ∉ (scanAll s.phase s.fbuf l).1) :
    Sys2Proof.core.run l.length s = .next (s.scanned l) := by
  induction l generalizing s with
  | nil => rfl
  | cons b l ih =>
    rw [List.length_cons] at hmore ⊢
    simp only [scanAll, List.mem_cons, not_or] at hquiet
    obtain ⟨hevent, hquiet⟩ := hquiet
    have hbyte : s.rxb[s.rxbIdx]? = some b := by
      have hhead : (s.rxb.drop s.rxbIdx)[0]? = some b := by rw [hbytes]; rfl
      simpa using hhead
    have htail : s.rxb.drop (s.rxbIdx + 1) = l ++ rest := by
      rw [← List.tail_drop, hbytes]
      rfl
    have hnext : s.nextByte? = some b := nextByte?_eq_some.mpr ⟨by omega, hbyte⟩
    have hstep : step s = .next (s.takeByte b) := by
      rw [step_byte ha (resetNow_of_nil hr) hc hnext (Ne.symm hevent), afterResetInput_of_nil hr, continueScan_eq_scansOn,
        scansOn, if_pos (by simp; omega)]
    rw [run_succ hstep, scanned_cons]
    exact ih (s := s.takeByte b) ha hr hc htail (by simp; omega) hquiet

/-! ### The acknowledgement -/

/-- The frame `7E FF 06 41 00 00 00 FE BA EF`. -/
def ackNotification : Frame := ⟨0x7E#8, 0xFF#8, 0x06#8, 0x41#8, 0x00#8, 0x00#8, 0x00#8, 0xFE#8, 0xBA#8, 0xEF#8⟩

theorem ackNotification_bytes :
    ackNotification.bytes
      = [0x7E#8, 0xFF#8, 0x06#8, 0x41#8, 0x00#8, 0x00#8, 0x00#8, 0xFE#8, 0xBA#8, 0xEF#8] := rfl

theorem ackNotification_check (corr : Bool) : cksumCheck corr ackNotification = true := by
  cases corr <;> decide

theorem message_ackNotification : Frame.message ackNotification = ⟨0x41#8, 0x00#8, 0x00#8⟩ := rfl

/-- What an acknowledgement leaves when it is all of the batch and `UNTIL_IDLE` asks whether more is pending. -/
def State.acknowledged (s : State) : State :=
  (((s.scanned (ackNotification.bytes.take 9)).takeByte Config.endMark).keepResponse
    (Frame.message ackNotification)).goto .waitPending

@[simp] theorem acknowledged_ctrl (s : State) : s.acknowledged.ctrl = .waitPending := by
  simp [State.acknowledged]
@[simp] theorem acknowledged_lastSent (s : State) : s.acknowledged.lastSent = s.lastSent := by
  simp [State.acknowledged, State.scanned]
@[simp] theorem acknowledged_lastResp (s : State) : s.acknowledged.lastResp = some ⟨0x41#8, 0x00#8, 0x00#8⟩ := by
  simp [State.acknowledged, message_ackNotification]
@[simp] theorem acknowledged_ackSeen (s : State) : s.acknowledged.ackSeen = true := by
  simp [State.acknowledged, message_ackNotification, Config.ackCode]
@[simp] theorem acknowledged_nested (s : State) : s.acknowledged.nested = s.nested := by
  simp [State.acknowledged, State.scanned]
@[simp] theorem acknowledged_params (s : State) : s.acknowledged.params = s.params := by
  simp [State.acknowledged, State.scanned]
@[simp] theorem acknowledged_env (s : State) : s.acknowledged.env = s.env := by
  simp [State.acknowledged, State.scanned]

/-- The acknowledgement's first nine bytes bring the scanner to the end marker's place. -/
theorem scanAll_ackNotification {s : State} (h : s.phase = .awaitingStart) :
    scanAll s.phase s.fbuf (ackNotification.bytes.take 9)
      = (List.replicate 9 .none, .awaitingEnd, { ackNotification with stop := s.fbuf.stop }) := by
  rw [h]
  exact scanAll_take_nine rfl

theorem acknowledged_phase {s : State} (h : s.phase = .awaitingStart) : s.acknowledged.phase = .awaitingStart := by
  have hend : (s.scanned (ackNotification.bytes.take 9)).phase = .awaitingEnd :=
    congrArg (fun r => r.2.1) (scanAll_ackNotification h)
  simp [State.acknowledged, hend, scan]

/-- An acknowledgement that fills the batch is scanned in ten steps. -/
theorem run_acknowledged {s : State} {rest : List Byte} (ha : s.params.admissible = true) (hr : s.env.resets = [])
    (hc : s.ctrl = .waitScan) (hphase : s.phase = .awaitingStart) (hpolicy : s.params.waitPolicy = .untilIdle)
    (hrxb : s.rxb = ackNotification.bytes ++ rest) (hlen : s.rxbLen = 10) (hidx : s.rxbIdx = 0) :
    Sys2Proof.core.run 10 s = .next s.acknowledged := by
  obtain ⟨hknown, _⟩ := admissible_iff.mp ha
  have hscan := scanAll_ackNotification hphase
  have hnine : Sys2Proof.core.run 9 s = .next (s.scanned (ackNotification.bytes.take 9)) := by
    refine run_scanned (l := ackNotification.bytes.take 9) (rest := Config.endMark :: rest) ha hr (.inl hc) ?_ ?_ ?_
    · rw [hidx, hrxb]
      rfl
    · rw [hidx, hlen]
      decide
    · rw [hscan]
      simp [List.replicate]
  obtain ⟨u, hu⟩ : ∃ u, u = s.scanned (ackNotification.bytes.take 9) := ⟨_, rfl⟩
  have huphase : u.phase = .awaitingEnd := by rw [hu]; exact congrArg (fun r => r.2.1) hscan
  have hufbuf : u.fbuf = { ackNotification with stop := s.fbuf.stop } := by rw [hu]; exact congrArg (fun r => r.2.2) hscan
  have huidx : u.rxbIdx = 9 := by rw [hu, State.scanned, hidx]; rfl
  have hulen : u.rxbLen = 10 := by rw [hu]; exact hlen
  have hnext : u.nextByte? = some Config.endMark := by
    refine nextByte?_eq_some.mpr ⟨by omega, ?_⟩
    have hurxb : u.rxb = ackNotification.bytes ++ rest := by rw [hu]; exact hrxb
    rw [huidx, hurxb]
    rfl
  have hframe : (u.takeByte Config.endMark).fbuf = ackNotification := by
    rw [State.takeByte_fbuf, huphase, hufbuf]
    rfl
  have hlast : step u = .next s.acknowledged := by
    have hur : u.env.resets = [] := by rw [hu]; exact hr
    have hua : u.params.admissible = true := by rw [hu]; exact ha
    have huc : u.ctrl = .waitScan := by rw [hu]; exact hc
    have hexhausted : ¬ u.rxbIdx + 1 < u.rxbLen := by omega
    rw [step_frame hua (resetNow_of_nil hur) (.inl huc) hnext (scanEvent_endMark huphase), afterResetInput_of_nil hur,
      hframe, completeFrame_of_valid (s := u.takeByte Config.endMark) (by rw [State.takeByte_params, hu]; exact hknown)
        (ackNotification_check _),
      interpret_of_ne_error (by decide), if_pos (by simpa using huc),
      waitPolicyEnd_of_untilIdle_exhausted (by simpa [hu, State.scanned] using hpolicy) (by simpa using hexhausted),
      State.acknowledged, hu]
  rw [hu.symm] at hnine
  exact (run_add 1 hnine).trans (run_one hlast)

/-! ### The whole operation -/

section Exchange

variable {s : State} (ha : s.params.admissible = true) (hr : s.env.resets = [])
include ha hr

/-- A ready poll leads to the read, when the time is looked at only on a poll that is not ready. -/
theorem step_poll_ready {polls : List PollAnswer} (hc : s.ctrl = .waitPoll) (hp : s.env.polls = .ready :: polls)
    (halways : s.params.timeoutCheckAlways = false) : step s = .next (s.timedPoll.goto .waitRead) := by
  rw [step_waitPoll ha (resetNow_of_nil hr) hc, afterResetInput_of_nil hr,
    waitPollStep_ready (pollAnswer_of_cons hp) (.inl halways)]

/-- A read with a batch that is not empty leads to scanning. -/
theorem step_read_scan {l : List Byte} {reads : List ReadAnswer} (hc : s.ctrl = .waitRead)
    (hread : s.env.reads = .batch l :: reads) (hl : l.length ≤ s.params.rxBatchMax) (hne : l ≠ []) :
    step s = .next ((s.afterRead.loadBatch l).goto .waitScan) := by
  have hanswer : s.readAnswer = .batch l := (readAnswer_of_cons hread).trans (limit_of_le hl)
  rw [step_read_batch ha (resetNow_of_nil hr) (.inl hc) hanswer, afterResetInput_of_nil hr, if_neg hne, if_pos hc]

/-- The last poll, with nothing pending and the acknowledgement seen, ends the operation with `OK`. -/
theorem step_pending_ok {polls : List PollAnswer} (hc : s.ctrl = .waitPending) (hp : s.env.polls = .notready :: polls)
    (hn : s.nested = false) (hack : s.ackSeen = true) : step s = .next (ended s.afterPoll .ok) := by
  rw [step_waitPending ha (resetNow_of_nil hr) hc, afterResetInput_of_nil hr,
    waitPendingStep_notready_ok (pollAnswer_of_cons hp) (.inr hack), finish_of_not_nested (by simpa using hn)]

end Exchange

/-- Settles O51: one step each for the request, the write, the poll and the read, ten for the frame and one for the last
poll. -/
theorem acknowledgedSendEndsWithOk : Obligations.AcknowledgedSendEndsWithOk := by
  intro s cmd ph pl rest polls reads writes ha hr hc _ hfb hpolicy halways hroom hphase hcmd hch hwrites hpolls hreads
  obtain ⟨offered, hoffered⟩ : ∃ t, t = s.takeItem.startSend ⟨cmd, ph, pl⟩ := ⟨_, rfl⟩
  obtain ⟨sent, hsent⟩ : ∃ t, t = offered.afterSent.startWait true := ⟨_, rfl⟩
  obtain ⟨polled, hpolled⟩ : ∃ t, t = sent.timedPoll.goto .waitRead := ⟨_, rfl⟩
  obtain ⟨loaded, hloaded⟩ : ∃ t, t = (polled.afterRead.loadBatch ackNotification.bytes).goto .waitScan := ⟨_, rfl⟩
  have haccept : step s = .next offered := by
    rw [step_of_decodeHost_ok ha (resetNow_of_nil hr) (.inl hc) hch (decodeRequest_encodeSendWord cmd ph pl 0 0),
      afterResetInput_of_nil hr, exec_send, offerSend_of_idle (by simpa using hc), hoffered]
  have hwrite : step offered = .next sent := by
    have hofferedResets : offered.env.resets = [] := by simpa [hoffered] using hr
    rw [step_writing (by simpa [hoffered] using ha) (resetNow_of_nil hofferedResets) (.inl (by simp [hoffered])),
      afterResetInput_of_nil hofferedResets, txStep_of_ok (by simp [hoffered, State.writeAnswer, hwrites]),
      choosePath_of_command (by simpa [hoffered] using hcmd) (by simpa [hoffered] using hfb), hsent]
  have hpoll : step sent = .next polled := by
    rw [hpolled]
    refine step_poll_ready (polls := .notready :: polls) ?_ ?_ ?_ ?_ ?_
    all_goals simp [hsent, hoffered, State.afterSent, ha, hr, hpolls, halways]
  have hpolledReads : polled.env.reads = .batch ackNotification.bytes :: reads := by
    rw [ackNotification_bytes]
    simpa [hpolled, hsent, hoffered, State.afterSent] using hreads
  have hpolledRoom : ackNotification.bytes.length ≤ polled.params.rxBatchMax := by
    rw [ackNotification_bytes]
    simpa [hpolled, hsent, hoffered, State.afterSent] using hroom
  have hread : step polled = .next loaded := by
    rw [hloaded]
    refine step_read_scan (reads := reads) ?_ ?_ (by simp [hpolled]) hpolledReads hpolledRoom nofun
    all_goals simp [hpolled, hsent, hoffered, State.afterSent, ha, hr]
  have hscan : Sys2Proof.core.run 10 loaded = .next loaded.acknowledged := by
    refine run_acknowledged (rest := s.rxb.drop 10) ?_ ?_ ?_ ?_ ?_ ?_ ?_ ?_
    all_goals simp [hloaded, hpolled, hsent, hoffered, State.afterSent, ha, hr, hphase, hpolicy, ackNotification_bytes]
  have hlast : step loaded.acknowledged = .next (ended loaded.acknowledged.afterPoll .ok) := by
    refine step_pending_ok (polls := polls) ?_ ?_ rfl ?_ ?_ (acknowledged_ackSeen loaded)
    all_goals simp [hloaded, hpolled, hsent, hoffered, State.afterSent, ha, hr, hpolls]
  have hrun : Sys2Proof.core.run 15 s = .next (ended loaded.acknowledged.afterPoll .ok) := by
    rw [run_succ haccept, run_succ hwrite, run_succ hpoll, run_succ hread]
    exact (run_add 1 hscan).trans (run_one hlast)
  have hloadedPhase : loaded.phase = .awaitingStart := by
    simpa [hloaded, hpolled, hsent, hoffered, State.afterSent] using hphase
  have hloadedReads : loaded.env.reads = reads := by simpa [hloaded] using readsLeft_of_le hpolledReads hpolledRoom
  have hframe : offered.txFrame = encodeFrame s.params.cksumZeroCmdCorrection ⟨cmd, ph, pl⟩ true := by
    simp [State.txFrame, hoffered, hfb]
  refine ⟨_, hrun, rfl, rfl, ?lastSent, by simp [ended], by simp [ended], by simp [ended, acknowledged_phase hloadedPhase],
    ?channel, ?polls, by simp [ended, hloadedReads], ?writes, ?wire⟩
  case wire =>
    rw [← hframe]
    simp [ended, hloaded, hpolled, hsent, hoffered, State.afterSent]
  all_goals simp [ended, hloaded, hpolled, hsent, hoffered, State.afterSent, hch, hpolls, hwrites]

end Sys2Proof.Machine
end
